-- ==== Sys2Proof/Word.lean ====
section
/-! DEFINITION. The word types of the EXPO40 pressure-plate core: the widths the ports and the
buffers have (spec 20_memory R70, R75; 30_encoding R101, R108). -/

namespace Sys2Proof

/-- One byte of an SPI exchange (00_scope R19). -/
abbrev Byte := BitVec 8

/-- One 16-bit word: a buffer word (20_memory R77), an ADC command word (30_encoding R108), or
the engine's raw value type (00_scope R15, `RAW_W` = 16). -/
abbrev Half := BitVec 16

/-- The 32-bit result of a response (10_state R41). -/
abbrev Result := BitVec 32

/-- One 64-bit host command word (30_encoding R101). -/
abbrev Command := BitVec 64

end Sys2Proof
end

