-- ==== Sys2Proof/Config.lean ====
section
/-! DEFINITION. What one instance of the hardware fixes (spec 00_scope section 3), the constants
the spec fixes for every instance, and the free values the spec leaves open. -/

namespace Sys2Proof

/-- The implementation parameters of 00_scope section 3. They are fixed for one instance of the
hardware; the state carries them so that every statement is about every instance (log 1). -/
structure Config where
  /-- `D`, the device count; the chain length `N` equals it (R8, R9). -/
  devices : Nat
  /-- `C`, the configured channels per device (R10). -/
  channels : Nat
  /-- `CAL_N`, calibration samples per channel (R13). -/
  calN : Nat
  /-- `AVG_N`, samples averaged per reading of SA_READ_ALL (R14). -/
  avgN : Nat
  /-- `SPI_MODE`, read by no rule (R16). -/
  spiMode : Nat
  /-- `SPI_CLOCK`, read by no rule (R16). -/
  spiClock : Nat
deriving DecidableEq, Repr

/-- The ranges of 00_scope section 3 (R8, R10, R13, R14). -/
def Config.wellFormed (k : Config) : Bool :=
  decide (1 ≤ k.devices ∧ k.devices ≤ 255 ∧ 4 ≤ k.channels ∧ k.channels ≤ 8 ∧
    1 ≤ k.calN ∧ k.calN ≤ 65535 ∧ 1 ≤ k.avgN ∧ k.avgN ≤ 65535)

/-- The instance that `State.reset` describes: the one most of 95_test_vectors uses.
DESIGN CHOICE (log 1): the spec leaves every parameter open. -/
def Config.shown : Config :=
  { devices := 4, channels := 4, calN := 1, avgN := 1, spiMode := 0, spiClock := 0 }

/-- `MAX_PORTS`, the size of the mode table (00_scope R11). -/
def Config.maxPorts : Nat := 8

/-- `RES`, the full-scale code count (00_scope R12). -/
def Config.res : Nat := 4096

/-- The channels of a plate: the first four of its device (43_sensor_array R240). -/
def Config.plateChannels : Nat := 4

/-- `ALL_PORTS`, the channel sentinel of SET_CONFIG (42_config R211). -/
def Config.allPorts : Nat := 0xFF

/-- `CHANNEL_ERROR_CODE` (00_scope R15). -/
def Config.channelErrorCode : Half := 0x8000

/-- `RANGE_ERROR_CODE` (00_scope R15). -/
def Config.rangeErrorCode : Half := 0x8001

/-- FREE VALUE (log 2): the byte that the environment answers in the n-th exchange since power-up,
where the state lists no answer for it. A received byte is "a free input of the step, with no law"
(00_scope R19; 93_implementation_defined part 1, "any value (a draw)"). -/
opaque Config.spiByte : Nat → Byte

/-- FREE VALUE (log 4): the level of stage i of the chain at power-up, "any value" until INIT's
first SR_SETALL (70_reset_and_hazards R345). -/
opaque Config.powerUpBit : Nat → Bool

/-- FREE VALUE (log 5): accumulator (p, c) after the calibration that ended at draw n: "their value
after calibration is unspecified and cannot be observed" (10_state R37). -/
opaque Config.staleAcc : Nat → Nat → Nat → BitVec 32

end Sys2Proof
end

