-- ==== Sys2Proof/Syntax.lean ====
section
/-! DEFINITION. The instructions: one constructor per row of spec/opcode_table.json (spec
30_encoding R103, R108), with the operands of R102 and the textual forms of R112 and R113. -/

namespace Sys2Proof

/-- A channel's sampling mode, one bit: SINGLE is 1 and DIFFERENTIAL is 0 (10_state R35). -/
inductive Mode where
  | differential
  | single
deriving DecidableEq, Repr

/-- The ten host commands (format HOST64, 30_encoding R103) and the two words the block sends to
a converter (format ADC16, R108). Operands are unsigned integers (R102); `WellFormed` bounds them
by their fields. -/
inductive Instr where
  /-- SELECT dev (40_selector R144). -/
  | select (dev : Nat)
  /-- ADC_READ dev, ch (41_adc_protocol R175). -/
  | adcRead (dev ch : Nat)
  /-- ADC_READ_ALL dev (41_adc_protocol R176). -/
  | adcReadAll (dev : Nat)
  /-- GET_CONFIG ch (42_config R210). -/
  | getConfig (ch : Nat)
  /-- SET_CONFIG mode, ch (42_config R211). -/
  | setConfig (mode : Mode) (ch : Nat)
  /-- RAW_TO_VOLTAGE vref, raw (42_config R213). -/
  | rawToVoltage (vref raw : Nat)
  /-- SA_READ_ALL (43_sensor_array R243). -/
  | saReadAll
  /-- SA_READ_ALL_RAW (43_sensor_array R244). -/
  | saReadAllRaw
  /-- SA_READ_CHANNEL dev, ch (43_sensor_array R245). -/
  | saReadChannel (dev ch : Nat)
  /-- READ_BUF addr (44_buffer_access R280). -/
  | readBuf (addr : Nat)
  /-- ADC_CMD_SINGLE ch: the ADC command word with SGL/DIFF = 1, emitted by the block and not
  accepted from the host (41_adc_protocol R170; log 9). -/
  | adcCmdSingle (ch : Nat)
  /-- ADC_CMD_DIFF ch: the ADC command word with SGL/DIFF = 0 (41_adc_protocol R170; log 9). -/
  | adcCmdDiff (ch : Nat)
deriving DecidableEq, Repr

/-- The pseudo-instruction DESELECT (30_encoding R113). -/
def Instr.deselect : Instr := .select 0

end Sys2Proof
end

