-- ==== Sys2Proof/WellFormed.lean ====
section
/-! DEFINITION. Which instructions have an encoding: every operand in its field's range (spec
30_encoding R101, R108; R112: an assembler "must refuse an operand outside its field's range"). -/

namespace Sys2Proof

/-- The range of an 8-bit field: DEV and CHAN (30_encoding R101). -/
def fitsByte (n : Nat) : Bool := decide (n < 256)

/-- The range of a 16-bit field: VREF, RAW and ADDR (30_encoding R101). -/
def fitsHalf (n : Nat) : Bool := decide (n < 65536)

/-- The range of the 3-bit channel field of the ADC command word (30_encoding R108). -/
def fitsPort (n : Nat) : Bool := decide (n < 8)

/-- Every operand of the instruction fits its field. -/
def Instr.wellFormed : Instr → Bool
  | .select dev => fitsByte dev
  | .adcRead dev ch => fitsByte dev && fitsByte ch
  | .adcReadAll dev => fitsByte dev
  | .getConfig ch => fitsByte ch
  | .setConfig _ ch => fitsByte ch
  | .rawToVoltage vref raw => fitsHalf vref && fitsHalf raw
  | .saReadAll => true
  | .saReadAllRaw => true
  | .saReadChannel dev ch => fitsByte dev && fitsByte ch
  | .readBuf addr => fitsHalf addr
  | .adcCmdSingle ch => fitsPort ch
  | .adcCmdDiff ch => fitsPort ch

end Sys2Proof
end

