-- ==== Sys2Proof/Decode.lean ====
section
/-! DEFINITION. Decoding, total on every word (spec 30_encoding R101 to R111), and after it the
encoder, written from the same tables. -/

namespace Sys2Proof

/-- An encoded word: a host command word (format HOST64, 30_encoding R101) or an ADC command word
(format ADC16, R108). The command port carries the first whole, with no byte lanes (20_memory R74). -/
inductive EncodedWord where
  | host64 (w : Command)
  | adc16 (w : Half)
deriving DecidableEq, Repr

/-- Why a word is no instruction. -/
inductive DecodeError where
  /-- OP is 0x0 or 0xB..0xF (30_encoding R105). -/
  | reservedOpcode
  /-- OP is assigned but a must-be-zero field is not zero (30_encoding R104, R105). -/
  | mustBeZero
  /-- A 16-bit word that is none of the 16 ADC command words (30_encoding R111). -/
  | notAnAdcWord
deriving DecidableEq, Repr

/-- What a word decodes to. -/
inductive Decoded where
  | instr (i : Instr)
  | rejected (e : DecodeError)
deriving DecidableEq, Repr

/-- The instruction of a decoded word, if it is one. -/
def Decoded.toOption : Decoded → Option Instr
  | .instr i => some i
  | .rejected _ => none

/-! ## Fields of the host command word (30_encoding R101, R102) -/

/-- `OP` = W[63:60]. -/
def opField (w : Command) : Nat := (w.extractLsb' 60 4).toNat

/-- `DEV` = W[59:52]. -/
def devField (w : Command) : Nat := (w.extractLsb' 52 8).toNat

/-- `CHAN` = W[51:44]. -/
def chanField (w : Command) : Nat := (w.extractLsb' 44 8).toNat

/-- `B` = W[43]: 1 is SINGLE, 0 is DIFFERENTIAL. -/
def modeField (w : Command) : Mode := if w.getLsbD 43 then .single else .differential

/-- `VREF` = W[31:16]. -/
def vrefField (w : Command) : Nat := (w.extractLsb' 16 16).toNat

/-- `RAW` / `ADDR` = W[15:0]. -/
def rawField (w : Command) : Nat := (w.extractLsb' 0 16).toNat

/-! ## The decoder -/

/-- One row of 30_encoding R104, with the reading of its operands. -/
structure HostRow where
  mnemonic : String
  matchBits : Command
  mask : Command
  read : Command → Instr

/-- The table of 30_encoding R104, row by row. -/
def hostRows : List HostRow :=
  [ ⟨"SELECT", 0x1000000000000000, 0xF00FFFFFFFFFFFFF, fun w => .select (devField w)⟩,
    ⟨"ADC_READ", 0x2000000000000000, 0xF0000FFFFFFFFFFF,
      fun w => .adcRead (devField w) (chanField w)⟩,
    ⟨"ADC_READ_ALL", 0x3000000000000000, 0xF00FFFFFFFFFFFFF, fun w => .adcReadAll (devField w)⟩,
    ⟨"GET_CONFIG", 0x4000000000000000, 0xFFF00FFFFFFFFFFF, fun w => .getConfig (chanField w)⟩,
    ⟨"SET_CONFIG", 0x5000000000000000, 0xFFF007FFFFFFFFFF,
      fun w => .setConfig (modeField w) (chanField w)⟩,
    ⟨"RAW_TO_VOLTAGE", 0x6000000000000000, 0xFFFFFFFF00000000,
      fun w => .rawToVoltage (vrefField w) (rawField w)⟩,
    ⟨"SA_READ_ALL", 0x7000000000000000, 0xFFFFFFFFFFFFFFFF, fun _ => .saReadAll⟩,
    ⟨"SA_READ_ALL_RAW", 0x8000000000000000, 0xFFFFFFFFFFFFFFFF, fun _ => .saReadAllRaw⟩,
    ⟨"SA_READ_CHANNEL", 0x9000000000000000, 0xF0000FFFFFFFFFFF,
      fun w => .saReadChannel (devField w) (chanField w)⟩,
    ⟨"READ_BUF", 0xA000000000000000, 0xFFFFFFFFFFFF0000, fun w => .readBuf (rawField w)⟩ ]

/-- The row that a word selects: "exactly when (W and mask) = match" (30_encoding R104). -/
def hostRowOf (w : Command) : Option HostRow :=
  hostRows.find? fun r => decide (w &&& r.mask = r.matchBits)

/-- Whether OP names a command: 0x1..0xA (30_encoding R103). -/
def assignedOpcode (op : Nat) : Bool := decide (1 ≤ op ∧ op ≤ 10)

/-- `decode(W)` of 30_encoding R105. -/
def decodeHost (w : Command) : Decoded :=
  match hostRowOf w with
  | some r => .instr (r.read w)
  | none => .rejected (if assignedOpcode (opField w) then .mustBeZero else .reservedOpcode)

/-- The bits of the ADC command word that are not the channel field (30_encoding R108). -/
def adcMask : Half := 0xFE3F

/-- The channel field w[8:6] of the ADC command word (30_encoding R108). -/
def portField (w : Half) : Nat := (w.extractLsb' 6 3).toNat

/-- Reading an ADC command word: START = 1, SGL/DIFF, the channel, and zeros elsewhere
(30_encoding R108, R111). -/
def decodeAdc (w : Half) : Decoded :=
  if w &&& adcMask = 0x0600 then .instr (.adcCmdSingle (portField w))
  else if w &&& adcMask = 0x0400 then .instr (.adcCmdDiff (portField w))
  else .rejected .notAnAdcWord

/-- Decoding a word of either format. -/
def decode : EncodedWord → Decoded
  | .host64 w => decodeHost w
  | .adc16 w => decodeAdc w

/-- The encoded word that `nbits` bits of the number `w` are: the ADC16 rows have 16 bits and the
HOST64 rows 64 (spec/opcode_table.json, "format"; log 15). -/
def wordOfBits (nbits w : Nat) : EncodedWord :=
  if nbits ≤ 16 then .adc16 (BitVec.ofNat 16 w) else .host64 (BitVec.ofNat 64 w)

/-- The instruction the decoder reads from an instruction whose bits are `w`. -/
def decodeTableWord (nbits w : Nat) : Option Instr := (decode (wordOfBits nbits w)).toOption

/-! ## The encoder -/

/-- The bit of a mode on the wire and in `B`: 1 is SINGLE (10_state R35, 30_encoding R101). -/
def Mode.isSingle : Mode → Bool
  | .single => true
  | .differential => false

/-- An unsigned field of `n` bits in a word of `width` bits, its lowest bit at `lo` (00_scope R17). -/
def place (width n lo v : Nat) : BitVec width := (BitVec.ofNat n v).zeroExtend width <<< lo

/-- A host command word from its fields, the reserved field zero (30_encoding R101). -/
def hostWord (op dev chan : Nat) (b : Bool) (vref raw : Nat) : Command :=
  place 64 4 60 op ||| place 64 8 52 dev ||| place 64 8 44 chan ||| place 64 1 43 b.toNat |||
    place 64 16 16 vref ||| place 64 16 0 raw

/-- The ADC command word: `0x0400 | (sgl << 9) | (ch << 6)` (30_encoding R108). -/
def adcWord (sgl : Bool) (ch : Nat) : Half :=
  0x0400 ||| place 16 1 9 sgl.toNat ||| place 16 3 6 ch

/-- The word of an instruction (30_encoding R103, R104, R108). -/
def encode : Instr → EncodedWord
  | .select dev => .host64 (hostWord 0x1 dev 0 false 0 0)
  | .adcRead dev ch => .host64 (hostWord 0x2 dev ch false 0 0)
  | .adcReadAll dev => .host64 (hostWord 0x3 dev 0 false 0 0)
  | .getConfig ch => .host64 (hostWord 0x4 0 ch false 0 0)
  | .setConfig mode ch => .host64 (hostWord 0x5 0 ch mode.isSingle 0 0)
  | .rawToVoltage vref raw => .host64 (hostWord 0x6 0 0 false vref raw)
  | .saReadAll => .host64 (hostWord 0x7 0 0 false 0 0)
  | .saReadAllRaw => .host64 (hostWord 0x8 0 0 false 0 0)
  | .saReadChannel dev ch => .host64 (hostWord 0x9 dev ch false 0 0)
  | .readBuf addr => .host64 (hostWord 0xA 0 0 false 0 addr)
  | .adcCmdSingle ch => .adc16 (adcWord true ch)
  | .adcCmdDiff ch => .adc16 (adcWord false ch)

end Sys2Proof
end

