-- ==== Sys2Proof/Machine/Wire.lean ====
section
/-! DEFINITION. The events of the two device-facing ports, and the pure functions on words and bit
lists that describe them: what a frame puts on the wire, what a selection shifts, what INIT leaves
(spec 00_scope R19, 10_state R44, 40_selector R145, 41_adc_protocol R171, 43_sensor_array R241). -/

namespace Sys2Proof.Machine

/-- An event of the chain port or the SPI port (10_state R44). A level is `true` for 1, the
deselect level, and `false` for 0, the active level (00_scope glossary). -/
inductive Event where
  | srShift (b : Bool)
  | spiBegin
  | spiXfer (tx rx : Byte)
  | spiEnd
deriving DecidableEq, Repr

/-- `DECODE(r2, r3)`: the low nibble of the second byte above the third byte, zero-extended to 16
bits (41_adc_protocol R171). -/
def adcDecode (r2 r3 : Byte) : Half := 0#4 ++ r2.extractLsb' 0 4 ++ r3

/-- The first byte of the frame, bits 15..8 of the command word (30_encoding R109). -/
def firstByte (w : Half) : Byte := w.extractLsb' 8 8

/-- The second byte of the frame, bits 7..0 of the command word (30_encoding R109). -/
def secondByte (w : Half) : Byte := w.extractLsb' 0 8

/-- The five events of one frame with command word `w` and answers r1, r2, r3
(41_adc_protocol R172). -/
def frameEvents (w : Half) (r1 r2 r3 : Byte) : List Event :=
  [ .spiBegin, .spiXfer (firstByte w) r1, .spiXfer (secondByte w) r2, .spiXfer 0 r3, .spiEnd ]

/-- The chain of `n` stages with only line `t` selected; `t` = 0 is all deselected
(10_state R32, R34). -/
def chainSelecting (n t : Nat) : List Bool := (List.range n).map fun i => decide (i + 1 ≠ t)

/-- The bits that a selection of device `t` shifts into a chain of `n` stages, when `c0` is the
current select index: the three cases of 40_selector R145. -/
def selectBits (n c0 t : Nat) : List Bool :=
  if t < 1 ∨ n < t then List.replicate n true
  else if c0 = 0 ∨ t ≤ c0 then List.replicate n true ++ false :: List.replicate (t - 1) true
  else List.replicate (t - c0) true

/-- The events of that selection. -/
def selectEvents (n c0 t : Nat) : List Event := (selectBits n c0 t).map .srShift

/-! ## What INIT leaves, in closed form

`byte n` is the answer to the n-th exchange of INIT. Calibration reads pass by pass, device by
device, channel by channel (43_sensor_array R241), so its read number `j` is channel `j % C` of
device `j / C % D + 1`, and uses the answers 3j, 3j + 1 and 3j + 2. -/

/-- The number of reads of a calibration: C * CAL_N * D (43_sensor_array R248). -/
def calReads (k : Config) : Nat := k.calN * k.devices * k.channels

/-- The device of calibration read `j`. -/
def calDevice (k : Config) (j : Nat) : Nat := j / k.channels % k.devices + 1

/-- The current select index before calibration read `j`. -/
def calCurBefore (k : Config) (j : Nat) : Nat := if j = 0 then 0 else calDevice k (j - 1)

/-- The reading of read number `j`, where each read takes three answers. -/
def readingOf (byte : Nat → Byte) (j : Nat) : Half := adcDecode (byte (3 * j + 1)) (byte (3 * j + 2))

/-- The events of calibration read `j`: every channel is SINGLE during INIT
(70_reset_and_hazards R341). -/
def calReadEvents (k : Config) (byte : Nat → Byte) (j : Nat) : List Event :=
  selectEvents k.devices (calCurBefore k j) (calDevice k j) ++
    frameEvents (adcWord true (j % k.channels)) (byte (3 * j)) (byte (3 * j + 1)) (byte (3 * j + 2))

/-- The events of INIT: the initial fill, then every calibration read (70_reset_and_hazards R341). -/
def initEvents (k : Config) (byte : Nat → Byte) : List Event :=
  List.replicate k.devices (.srShift true) ++
    (List.range (calReads k)).flatMap (calReadEvents k byte)

/-- The sum of the CAL_N readings of channel `c` of plate `p`. -/
def calSum (k : Config) (byte : Nat → Byte) (p c : Nat) : Nat :=
  ((List.range k.calN).map fun s =>
    (readingOf byte ((s * k.devices + p) * k.channels + c)).toNat).sum

/-- The baseline matrix after INIT: the floor of each mean (43_sensor_array R241, 10_state R48). -/
def calBase (k : Config) (byte : Nat → Byte) : List (List (BitVec 12)) :=
  (List.range k.devices).map fun p =>
    (List.range k.channels).map fun c => BitVec.ofNat 12 (calSum k byte p c / k.calN)

/-- The accumulators after a calibration that ended at draw `n`: free values (10_state R37). -/
def staleAccs (k : Config) (n : Nat) : List (List (BitVec 32)) :=
  (List.range k.devices).map fun p => (List.range k.channels).map fun c => Config.staleAcc n p c

end Sys2Proof.Machine
end

