-- ==== Sys2Proof/Machine/State.lean ====
section
/-! DEFINITION. The state of the block (spec 10_state), the reasons a step can stop, and the state
right after reset (10_state R48). -/

namespace Sys2Proof.Machine

/-- The status codes of a response (60_exceptions R301). A reserved code 6..15 "is never written, so
a model may leave it out of its status type". -/
inductive Status where
  | ok
  | channelError
  | rangeError
  | configFail
  | illegalCmd
  | badAddr
deriving DecidableEq, Repr

/-- The sequencer phase (10_state R42). -/
inductive Phase where
  | init
  | ready
  | busy
deriving DecidableEq, Repr

/-- What the world does next at the block's ports (MODEL's own, log 6). -/
inductive Move where
  /-- The host presents a command word (30_encoding R114). -/
  | command (w : Command)
  /-- The host has `rsp_ready` = 1 on a clock edge (30_encoding R114). -/
  | takeResponse
  /-- A low pulse of `rst_n`, or power-up (70_reset_and_hazards R340). -/
  | reset
deriving DecidableEq, Repr

/-- No fault exists: "Faults ... none exists" (93_implementation_defined part 1; 60_exceptions R300;
log 12). -/
inductive Fault where
deriving DecidableEq, Repr

/-- The reasons for which the model has no move. -/
inductive Refusal where
  /-- An instruction whose meaning is not written yet: answered by `exec` only. Safe: it claims
  nothing. -/
  | notModelled (mnemonic : String)
  /-- Raised by the step when the host presents a command while `cmd_ready` = 0: "The model has no
  move for such a host" (60_exceptions R313; log 8). Safe: it claims nothing. -/
  | commandWhileNotReady
  /-- Raised by `exec` for an ADC command word whose mode is not the present mode of its channel: a
  frame takes bit 9 from `MODE[c]`, so the block sends no such word then (41_adc_protocol R170; log
  9). No step raises it. Safe: it claims nothing. -/
  | adcWordNotSent
deriving DecidableEq, Repr

/-- Everything the spec gives the block (10_state R30 to R48), the parameters of the instance, and
four fields of the model's own. -/
@[ext]
structure State where
  /-- The parameters of this instance (00_scope section 3). No step writes them. -/
  cfg : Config
  /-- `SR[0..N-1]`, the select chain, stage 0 first (10_state R32). -/
  sr : List Bool
  /-- `CUR`, the current select index (10_state R33). -/
  cur : BitVec 8
  /-- `MODE[0..7]` (10_state R35). -/
  mode : List Mode
  /-- `BASE[0..D-1][0..C-1]` (10_state R36). -/
  base : List (List (BitVec 12))
  /-- `ACC[0..D-1][0..C-1]`, hidden (10_state R37). -/
  acc : List (List (BitVec 32))
  /-- `CHBUF[0..7]` (10_state R38). -/
  chbuf : List Half
  /-- `RAWBUF[0..D-1][0..C-1]` (10_state R39). -/
  rawbuf : List (List Half)
  /-- `XOUT[0..D-1]`, two's complement (10_state R40). -/
  xout : List Half
  /-- `YOUT[0..D-1]`, two's complement (10_state R40). -/
  yout : List Half
  /-- `RSP_STATUS` (10_state R41). -/
  rspStatus : Status
  /-- `RSP_RESULT` (10_state R41). -/
  rspResult : Result
  /-- A response is pending: `rsp_valid` (30_encoding R114). -/
  rspValid : Bool
  /-- `PHASE` (10_state R42). -/
  phase : Phase
  /-- `BUS_HELD`, hidden (10_state R43). -/
  busHeld : Bool
  /-- The event trace, oldest event first (10_state R44). -/
  trace : List Event
  /-- MODEL's own (log 2): the answers the SPI port will give, oldest first. -/
  rx : List Byte
  /-- MODEL's own (log 2): how many bytes have been exchanged. -/
  drawn : Nat
  /-- MODEL's own (log 19): the value the last FRAME returned to its caller. -/
  frameRet : Half
  /-- MODEL's own (log 6): what the world does next, soonest first. -/
  pending : List Move
deriving DecidableEq, Repr

/-- `N`, the chain length, equals `D` (00_scope R9). -/
abbrev State.lines (s : State) : Nat := s.cfg.devices

/-- The state when `PHASE` becomes READY after INIT has run from power-up, in an instance `k` whose
SPI port answered `byte 0`, `byte 1`, ... (10_state R48, 70_reset_and_hazards R342). -/
def State.ready (k : Config) (byte : Nat → Byte) : State :=
  { cfg := k
    sr := chainSelecting k.devices k.devices
    cur := BitVec.ofNat 8 k.devices
    mode := List.replicate Config.maxPorts .single
    base := calBase k byte
    acc := staleAccs k (3 * calReads k)
    chbuf := List.replicate Config.maxPorts 0
    rawbuf := List.replicate k.devices (List.replicate k.channels 0)
    xout := List.replicate k.devices 0
    yout := List.replicate k.devices 0
    rspStatus := .ok
    rspResult := 0
    rspValid := false
    phase := .ready
    busHeld := false
    trace := initEvents k byte
    rx := []
    drawn := 3 * calReads k
    frameRet := readingOf byte (calReads k - 1)
    pending := [] }

/-- The machine right after reset: INIT has run (log 3), in the instance `Config.shown` (log 1), and
every byte its calibration received is a free value (log 2). -/
def State.reset : State := State.ready Config.shown Config.spiByte

end Sys2Proof.Machine
end

