-- ==== Sys2Proof/Machine/Flags.lean ====
section
/-! DEFINITION. The block's one status register, as numbers. It has no condition codes and no other
flags (spec 10_state R45); its codes are those of 60_exceptions R301. -/

namespace Sys2Proof.Machine

/-- The 4-bit code of a status (60_exceptions R301). -/
def statusCode : Status → BitVec 4
  | .ok => 0
  | .channelError => 1
  | .rangeError => 2
  | .configFail => 3
  | .illegalCmd => 4
  | .badAddr => 5

/-- The RESULT of an error response (60_exceptions R301), and 0 for OK, whose result is the
command's own. -/
def errorResult : Status → Result
  | .channelError => Config.channelErrorCode.zeroExtend 32
  | .rangeError => Config.rangeErrorCode.zeroExtend 32
  | _ => 0

/-- `cmd_ready`: 1 "exactly when PHASE = READY and no response is pending" (30_encoding R114). -/
def cmdReady (s : State) : Bool := decide (s.phase = .ready) && !s.rspValid

end Sys2Proof.Machine
end

