-- ==== Sys2Proof/Machine/Operands.lean ====
section
/-! DEFINITION. Operand checks, integer arithmetic and table accesses that the commands share (spec
00_scope R18, 30_encoding R102, 42_config R211, 60_exceptions R308). -/

namespace Sys2Proof.Machine

/-! ## Arithmetic of 00_scope R18 -/

/-- `tdiv(a, b)`: signed division rounded toward zero. -/
def tdiv (a b : Int) : Int := a.sign * b.sign * ((a.natAbs / b.natAbs : Nat) : Int)

/-- `fdiv(a, b)`: floor division of non-negative integers. -/
def fdiv (a b : Nat) : Nat := a / b

/-- `s16(v)`: the 16-bit two's-complement encoding, `v mod 2^16`. -/
def s16 (v : Int) : Half := BitVec.ofInt 16 v

/-- `zext_32` of a 16-bit value (20_memory R75). -/
def zext32 (v : Half) : Result := v.zeroExtend 32

/-! ## Operand checks -/

/-- A device index addresses a device: 1..D (30_encoding R102, 40_selector R143). -/
def validDevice (k : Config) (d : Nat) : Bool := decide (1 ≤ d ∧ d ≤ k.devices)

/-- A channel index is configured: below C (41_adc_protocol R175). -/
def configuredChannel (k : Config) (c : Nat) : Bool := decide (c < k.channels)

/-- A channel index names an entry of the mode table: below MAX_PORTS (42_config R210; 90_conflicts
C6). -/
def tablePort (c : Nat) : Bool := decide (c < Config.maxPorts)

/-- The complementary partner `c xor 1` (42_config R211). -/
def partner (c : Nat) : Nat := c ^^^ 1

/-! ## Loops and tables -/

/-- `for i in 0..n-1`, in increasing order (00_scope R20). -/
def forUpTo {σ : Type} : Nat → (Nat → σ → σ) → σ → σ
  | 0, _, x => x
  | n + 1, body, x => body n (forUpTo n body x)

/-- `repeat k times` (00_scope R20). -/
def repeatTimes {σ : Type} : Nat → (σ → σ) → σ → σ
  | 0, _, x => x
  | n + 1, body, x => body (repeatTimes n body x)

/-- Entry (p, c) of a table of rows; `default` where the table has no such entry (log 16). -/
def cell {α : Type} (default : α) (m : List (List α)) (p c : Nat) : α := (m.getD p []).getD c default

/-- The table with entry (p, c) replaced; unchanged where the table has no such entry. -/
def setCell {α : Type} (m : List (List α)) (p c : Nat) (v : α) : List (List α) :=
  m.set p ((m.getD p []).set c v)

/-- `MODE[c]` (10_state R35). -/
def State.modeAt (s : State) (c : Nat) : Mode := s.mode.getD c .single

/-- `BASE[p][c]` (10_state R36). -/
def State.baseAt (s : State) (p c : Nat) : BitVec 12 := cell 0 s.base p c

/-- The n-th answer from now on the SPI port: the listed one, else the free value (log 2). -/
def State.nextByte (s : State) (n : Nat) : Byte := s.rx.getD n (Config.spiByte (s.drawn + n))

end Sys2Proof.Machine
end

