-- ==== Sys2Proof/Machine/Ops.lean ====
section
/-! DEFINITION. The micro-operations of the three units, each the pseudocode of its rule, and the
one way a command ends (spec 00_scope R19, 40_selector R140 to R143, 41_adc_protocol R170 to R174,
60_exceptions R300). -/

namespace Sys2Proof.Machine

/-! ## Ending a command -/

/-- `respond(status, result)`: writes both response registers and raises the response-valid
handshake (10_state R41); the command is over and the phase READY again (R42; log 7). -/
def respond (st : Status) (r : Result) (s : State) : State :=
  { s with rspStatus := st, rspResult := r, rspValid := true, phase := .ready }

/-- `raise <Status>(result)`: respond, with the rest of the command skipped (00_scope R19). The block
has no traps: this is all that an error does (60_exceptions R300, R301), and there is nothing to
return from (R311). -/
def raise (st : Status) (s : State) : State := respond st (errorResult st) s

/-! ## Events and draws -/

/-- Appends one event to the trace (00_scope R19, 10_state R44). -/
def emit (e : Event) (s : State) : State := { s with trace := s.trace ++ [e] }

/-- One draw: the next answer of the SPI port (00_scope R19; log 2). -/
def draw (s : State) : Byte × State :=
  (s.nextByte 0, { s with rx := s.rx.drop 1, drawn := s.drawn + 1 })

/-- `rx <- SPI_XFER(tx)`: one full-duplex byte exchange (00_scope R19). -/
def spiXfer (tx : Byte) (s : State) : Byte × State :=
  ((draw s).1, emit (.spiXfer tx (draw s).1) (draw s).2)

/-! ## The select chain -/

/-- `SR_ADVANCE(b)`: the bit enters at stage 0, every stage moves one outward, the last is lost
(40_selector R140). -/
def srAdvance (b : Bool) (s : State) : State :=
  emit (.srShift b) { s with sr := (b :: s.sr).take s.lines }

/-- `SR_SETALL(b)`: N advances (40_selector R141). -/
def srSetAll (b : Bool) (s : State) : State := repeatTimes s.lines (srAdvance b) s

/-- `CUR <- k`. -/
def setCur (k : Nat) (s : State) : State := { s with cur := BitVec.ofNat 8 k }

/-- The start of a selection of a valid `t`: the chain reset, where nothing is selected or the
current line is at or past the target (40_selector R143; 90_conflicts C2). -/
def selectStart (t : Nat) (s : State) : State :=
  if s.cur.toNat = 0 ∨ t ≤ s.cur.toNat then setCur 1 (srAdvance false (srSetAll true s)) else s

/-- `SELECT_CORE(t)` (40_selector R143): whether a device is selected now, and the state. -/
def selectCore (t : Nat) (s : State) : Bool × State :=
  if validDevice s.cfg t then
    (true, setCur t
      (repeatTimes (t - (selectStart t s).cur.toNat) (srAdvance true) (selectStart t s)))
  else (false, setCur 0 (srSetAll true s))

/-! ## Frames -/

/-- `ENCODE(c)`: the ADC command word of channel c in its present mode (41_adc_protocol R170). -/
def encodeChannel (c : Nat) (s : State) : Half := adcWord (s.modeAt c).isSingle c

/-- `emit SPI_BEGIN; BUS_HELD <- 1` (41_adc_protocol R172). -/
def spiBegin (s : State) : State := { emit .spiBegin s with busHeld := true }

/-- `emit SPI_END; BUS_HELD <- 0` (41_adc_protocol R172). -/
def spiEnd (s : State) : State := { emit .spiEnd s with busHeld := false }

/-- The exchange of FRAME with command word `w`: three bytes under one bracket, and the decoded
answer (41_adc_protocol R172, 20_memory R72). The returned value is kept in `frameRet` (log 19). -/
def exchange (w : Half) (s : State) : Half × State :=
  let x1 := spiXfer (firstByte w) (spiBegin s)
  let x2 := spiXfer (secondByte w) x1.2
  let x3 := spiXfer 0 x2.2
  let v := adcDecode x2.1 x3.1
  (v, { spiEnd x3.2 with frameRet := v })

/-- `FRAME(c)` (41_adc_protocol R172). -/
def frame (c : Nat) (s : State) : Half × State := exchange (encodeChannel c s) s

/-- `READ_CORE(d, c)`: select, then one frame; an invalid device gives 0 and no frame
(41_adc_protocol R174). The only caller of a frame (R172). -/
def readCore (d c : Nat) (s : State) : Half × State :=
  let sel := selectCore d s
  if sel.1 then frame c sel.2 else (0, sel.2)

/-- The command `ADC_READ(dev, ch)`, whole (41_adc_protocol R175): the channel check comes before the
selection (60_exceptions R303, R308). -/
def readCommand (dev ch : Nat) (s : State) : State :=
  if configuredChannel s.cfg ch then
    let r := readCore dev ch s
    respond .ok (zext32 r.1) r.2
  else raise .channelError s

/-- The ADC command word of mode `m` and channel `ch`, as the block comes to send it: inside a command
(30_encoding R103), here the ADC_READ of that channel of the current device, whose frame sends the
word exactly when `MODE[ch]` is `m` (41_adc_protocol R170, R172; log 9). In the other mode the block
sends no such word. -/
def sendWord (m : Mode) (ch : Nat) (s : State) : Host.Outcome State Fault Refusal :=
  if s.modeAt ch = m then .next (readCommand s.cur.toNat ch s) else .refused .adcWordNotSent

end Sys2Proof.Machine
end

