-- ==== Sys2Proof/Machine/AdcProtocol.lean ====
section
/-! DEFINITION. The read commands of the ADC protocol engine, and the two ADC command words (spec
41_adc_protocol). -/

namespace Sys2Proof.Machine

/-- `ADC_READ dev, ch` (41_adc_protocol R175). -/
def execAdcRead (dev ch : Nat) (s : State) : Host.Outcome State Fault Refusal :=
  .next (readCommand dev ch s)

/-- `CHBUF[c] <- READ_CORE(dev, c)` (41_adc_protocol R176). -/
def readIntoChbuf (dev c : Nat) (s : State) : State :=
  let r := readCore dev c s
  { r.2 with chbuf := r.2.chbuf.set c r.1 }

/-- `ADC_READ_ALL dev` (41_adc_protocol R176): C separate reads in channel order; RESULT 1, for an
invalid device too. -/
def execAdcReadAll (dev : Nat) (s : State) : Host.Outcome State Fault Refusal :=
  .next (respond .ok 1 (forUpTo s.cfg.channels (readIntoChbuf dev) s))

/-- `ADC_CMD_SINGLE ch`: the word that a frame sends for a SINGLE channel, run in the ADC_READ that
sends it to the current device (30_encoding R103, R108; 41_adc_protocol R170, R172; log 9). -/
def execAdcCmdSingle (ch : Nat) (s : State) : Host.Outcome State Fault Refusal :=
  sendWord .single ch s

/-- `ADC_CMD_DIFF ch`: the word that a frame sends for a DIFFERENTIAL channel, run in the ADC_READ that
sends it to the current device (30_encoding R103, R108; 41_adc_protocol R170, R172; log 9). -/
def execAdcCmdDiff (ch : Nat) (s : State) : Host.Outcome State Fault Refusal :=
  sendWord .differential ch s

end Sys2Proof.Machine
end

