-- ==== Sys2Proof/Machine/BufferAccess.lean ====
section
/-! DEFINITION. The buffer space, a read-only view of named state, and READ_BUF (spec 20_memory R79,
44_buffer_access). -/

namespace Sys2Proof.Machine

/-- A mode as a 16-bit word: 1 = SINGLE, 0 = DIFFERENTIAL (20_memory R79). -/
def modeWord : Mode → Half
  | .single => 1
  | .differential => 0

/-- The number of chain words: ceil(N/16) (20_memory R79). -/
def chainWords (s : State) : Nat := (s.lines + 15) / 16

/-- The number whose bit i is `bit i`, for i below n. -/
def packBits (bit : Nat → Bool) : Nat → Nat
  | 0 => 0
  | n + 1 => packBits bit n + (if bit n then 2 ^ n else 0)

/-- Chain word w: bit i is `SR[16w + i]` when 16w + i < N, else 0 (20_memory R79). -/
def chainWord (s : State) (w : Nat) : Half :=
  BitVec.ofNat 16 (packBits (fun i => decide (16 * w + i < s.lines) && s.sr.getD (16 * w + i) false) 16)

/-- `MemRead(a, 2)`, by the rows of 20_memory R79 (44_buffer_access R280); `none` is unmapped. -/
def memRead (a : Nat) (s : State) : Option Half :=
  if a ≤ 0x0007 then some (s.chbuf.getD a 0)
  else if 0x0100 ≤ a ∧ a < 0x0100 + s.cfg.devices then some (s.xout.getD (a - 0x0100) 0)
  else if 0x0200 ≤ a ∧ a < 0x0200 + s.cfg.devices then some (s.yout.getD (a - 0x0200) 0)
  else if 0x0300 ≤ a ∧ a ≤ 0x0307 then some (modeWord (s.modeAt (a - 0x0300)))
  else if a = 0x0400 then some (s.cur.zeroExtend 16)
  else if 0x0410 ≤ a ∧ a < 0x0410 + chainWords s then some (chainWord s (a - 0x0410))
  else if 0x1000 ≤ a ∧ a ≤ 0x17FF ∧ (a - 0x1000) / 8 < s.cfg.devices ∧
      (a - 0x1000) % 8 < s.cfg.channels then
    some (cell 0 s.rawbuf ((a - 0x1000) / 8) ((a - 0x1000) % 8))
  else if 0x2000 ≤ a ∧ a ≤ 0x27FF ∧ (a - 0x2000) / 8 < s.cfg.devices ∧
      (a - 0x2000) % 8 < s.cfg.channels then
    some ((s.baseAt ((a - 0x2000) / 8) ((a - 0x2000) % 8)).zeroExtend 16)
  else none

/-- `READ_BUF addr` (44_buffer_access R280). -/
def execReadBuf (addr : Nat) (s : State) : Host.Outcome State Fault Refusal :=
  match memRead addr s with
  | some w => .next (respond .ok (zext32 w) s)
  | none => .next (raise .badAddr s)

end Sys2Proof.Machine
end

