-- ==== Sys2Proof/Machine/ModeConfig.lean ====
section
/-! DEFINITION. The mode table's commands and the raw-to-voltage conversion (spec 42_config). -/

namespace Sys2Proof.Machine

/-- The bit of a mode as a 32-bit result: 1 = SINGLE, 0 = DIFFERENTIAL (42_config R210). -/
def modeResult : Mode → Result
  | .single => 1
  | .differential => 0

/-- `MODE[c] <- b`. -/
def setMode (c : Nat) (b : Mode) (s : State) : State := { s with mode := s.mode.set c b }

/-- The write of a SET_CONFIG to one channel: DIFFERENTIAL takes the complementary partner with it,
SINGLE leaves the partner as it was (42_config R211; 90_conflicts C5). -/
def setModePaired (b : Mode) (c : Nat) (s : State) : State :=
  match b with
  | .differential => setMode (partner c) .differential (setMode c .differential s)
  | .single => setMode c .single s

/-- `GET_CONFIG ch` (42_config R210). -/
def execGetConfig (ch : Nat) (s : State) : Host.Outcome State Fault Refusal :=
  if tablePort ch then .next (respond .ok (modeResult (s.modeAt ch)) s)
  else .next (raise .rangeError s)

/-- `SET_CONFIG mode, ch` (42_config R211). -/
def execSetConfig (b : Mode) (ch : Nat) (s : State) : Host.Outcome State Fault Refusal :=
  if ch = Config.allPorts then
    .next (respond .ok 1 (forUpTo Config.maxPorts (fun c => setMode c b) s))
  else if tablePort ch then .next (respond .ok 1 (setModePaired b ch s))
  else .next (raise .configFail s)

/-- `RAW_TO_VOLTAGE vref, raw` (42_config R213): the exact product, read as Q20.12. -/
def execRawToVoltage (vref raw : Nat) (s : State) : Host.Outcome State Fault Refusal :=
  .next (respond .ok (BitVec.ofNat 32 raw * BitVec.ofNat 32 vref) s)

end Sys2Proof.Machine
end

