-- ==== Sys2Proof/Machine/Selector.lean ====
section
/-! DEFINITION. The command of the shift-register chip-select multiplexer (spec 40_selector). -/

namespace Sys2Proof.Machine

/-- `SELECT dev` (40_selector R144): the returned flag is discarded, and the response is OK for an
invalid device too (60_exceptions R307). -/
def execSelect (dev : Nat) (s : State) : Host.Outcome State Fault Refusal :=
  .next (respond .ok 0 (selectCore dev s).2)

end Sys2Proof.Machine
end

