-- ==== Sys2Proof/Machine/SensorArray.lean ====
section
/-! DEFINITION. The sensor array: calibration, sampler, baseline subtractor and X/Y differencer
(spec 43_sensor_array). -/

namespace Sys2Proof.Machine

/-! ## Calibration (43_sensor_array R241) -/

/-- `ACC[d-1][c] <- ACC[d-1][c] + READ_CORE(d, c)`, with d = p + 1. -/
def accumulate (p c : Nat) (s : State) : State :=
  let r := readCore (p + 1) c s
  { r.2 with acc := setCell r.2.acc p c (cell 0 r.2.acc p c + r.1.zeroExtend 32) }

/-- One sample pass: every device in order, every channel in order. -/
def samplePass (s : State) : State :=
  forUpTo s.cfg.devices (fun p s => forUpTo s.cfg.channels (accumulate p) s) s

/-- `BASE[p][c] <- fdiv(ACC[p][c], CAL_N)` for every p and c; the accumulators are unspecified from
here on (10_state R37; log 5). -/
def storeBaselines (s : State) : State :=
  { s with
    base := (List.range s.cfg.devices).map fun p =>
      (List.range s.cfg.channels).map fun c =>
        BitVec.ofNat 12 (fdiv (cell 0 s.acc p c).toNat s.cfg.calN)
    acc := staleAccs s.cfg s.drawn }

/-- `CALIBRATE` (43_sensor_array R241). -/
def calibrate (s : State) : State :=
  storeBaselines (repeatTimes s.cfg.calN samplePass
    { s with acc := List.replicate s.cfg.devices (List.replicate s.cfg.channels 0) })

/-! ## The differencer (43_sensor_array R242) -/

/-- `k[c] = v[c] - bp[c]`, signed. -/
def corrected (v bp : List Nat) (c : Nat) : Int := (v.getD c 0 : Int) - (bp.getD c 0 : Int)

/-- The average of a pair of corrected channels, truncated toward zero. -/
def pairAverage (k : Nat → Int) (i j : Nat) : Int := tdiv (k i + k j) 2

/-- `DIFF(v, bp)`: X = avg(0,1) - avg(2,3) and Y = avg(1,3) - avg(0,2). -/
def plateDiff (v bp : List Nat) : Int × Int :=
  let k := corrected v bp
  (pairAverage k 0 1 - pairAverage k 2 3, pairAverage k 1 3 - pairAverage k 0 2)

/-! ## Commands -/

/-- `sum[c] = sum[c] + READ_CORE(p+1, c)`, where a running pair holds the sums and the state. -/
def addReading (p c : Nat) (x : List Nat × State) : List Nat × State :=
  let r := readCore (p + 1) c x.2
  (x.1.set c (x.1.getD c 0 + r.1.toNat), r.2)

/-- The AVG_N sample passes over the four channels of plate p (43_sensor_array R243). -/
def samplePlate (p : Nat) (s : State) : List Nat × State :=
  repeatTimes s.cfg.avgN (forUpTo Config.plateChannels (addReading p))
    (List.replicate Config.plateChannels 0, s)

/-- The baselines `BASE[p][0..3]` of plate p. -/
def plateBaselines (p : Nat) (s : State) : List Nat :=
  (List.range Config.plateChannels).map fun c => (s.baseAt p c).toNat

/-- Plate p of SA_READ_ALL: sample, average, subtract, difference, and overwrite the two slots
(43_sensor_array R243). -/
def readPlate (p : Nat) (s : State) : State :=
  let r := samplePlate p s
  let d := plateDiff (r.1.map fun sum => fdiv sum s.cfg.avgN) (plateBaselines p s)
  { r.2 with xout := r.2.xout.set p (s16 d.1), yout := r.2.yout.set p (s16 d.2) }

/-- `SA_READ_ALL` (43_sensor_array R243). -/
def execSaReadAll (s : State) : Host.Outcome State Fault Refusal :=
  .next (respond .ok 0 (forUpTo s.cfg.devices readPlate s))

/-- `RAWBUF[p][c] <- READ_CORE(p+1, c)` (43_sensor_array R244). -/
def readIntoRawbuf (p c : Nat) (s : State) : State :=
  let r := readCore (p + 1) c s
  { r.2 with rawbuf := setCell r.2.rawbuf p c r.1 }

/-- `SA_READ_ALL_RAW` (43_sensor_array R244). -/
def execSaReadAllRaw (s : State) : Host.Outcome State Fault Refusal :=
  .next (respond .ok 0
    (forUpTo s.cfg.devices (fun p s => forUpTo s.cfg.channels (readIntoRawbuf p) s) s))

/-- `SA_READ_CHANNEL dev, ch` (43_sensor_array R245): one reading less its baseline, wrapped to 16
bits; an invalid device has no baseline row and gives 0. -/
def execSaReadChannel (dev ch : Nat) (s : State) : Host.Outcome State Fault Refusal :=
  if configuredChannel s.cfg ch then
    let r := readCore dev ch s
    if validDevice s.cfg dev then
      .next (respond .ok (zext32 (r.1 - (r.2.baseAt (dev - 1) ch).zeroExtend 16)) r.2)
    else .next (respond .ok 0 r.2)
  else .next (raise .channelError s)

end Sys2Proof.Machine
end

