-- ==== Sys2Proof/Machine/Dispatch.lean ====
section
/-! DEFINITION. One arm per instruction, each one call of its meaning. -/

namespace Sys2Proof.Machine

def exec (i : Instr) (s : State) : Host.Outcome State Fault Refusal :=
  match i with
  | .select dev => Sys2Proof.Machine.execSelect dev s
  | .adcRead dev ch => Sys2Proof.Machine.execAdcRead dev ch s
  | .adcReadAll dev => Sys2Proof.Machine.execAdcReadAll dev s
  | .getConfig ch => Sys2Proof.Machine.execGetConfig ch s
  | .setConfig mode ch => Sys2Proof.Machine.execSetConfig mode ch s
  | .rawToVoltage vref raw => Sys2Proof.Machine.execRawToVoltage vref raw s
  | .saReadAll => Sys2Proof.Machine.execSaReadAll s
  | .saReadAllRaw => Sys2Proof.Machine.execSaReadAllRaw s
  | .saReadChannel dev ch => Sys2Proof.Machine.execSaReadChannel dev ch s
  | .readBuf addr => Sys2Proof.Machine.execReadBuf addr s
  | .adcCmdSingle ch => Sys2Proof.Machine.execAdcCmdSingle ch s
  | .adcCmdDiff ch => Sys2Proof.Machine.execAdcCmdDiff ch s

end Sys2Proof.Machine
end

