-- ==== Sys2Proof/Machine/Init.lean ====
section
/-! DEFINITION. Reset: the INIT sequence and what a pulse of `rst_n` does (spec
70_reset_and_hazards R340 to R345, R353). -/

namespace Sys2Proof.Machine

/-- The selector's and the engine's construction, and the buffers: the steps of INIT before
CALIBRATE, after the initial fill of the chain (70_reset_and_hazards R341). -/
def clearTables (s : State) : State :=
  { s with
    cur := 0
    mode := List.replicate Config.maxPorts .single
    chbuf := List.replicate Config.maxPorts 0
    xout := List.replicate s.cfg.devices 0
    yout := List.replicate s.cfg.devices 0
    rawbuf := List.replicate s.cfg.devices (List.replicate s.cfg.channels 0) }

/-- The end of INIT: OK, 0, no response pending, READY (70_reset_and_hazards R341). -/
def becomeReady (s : State) : State :=
  { s with rspStatus := .ok, rspResult := 0, rspValid := false, phase := .ready }

/-- The INIT sequence (70_reset_and_hazards R341). -/
def initSequence (s : State) : State :=
  becomeReady (calibrate (clearTables (srSetAll true { s with phase := .init, busHeld := false })))

/-- While `rst_n` = 0: no response is presented (70_reset_and_hazards R340), and an open bus bracket
is closed before INIT begins (R353). -/
def enterReset (s : State) : State :=
  let t := if s.busHeld then spiEnd s else s
  { t with rspValid := false }

/-- A low pulse of `rst_n`: "a reset step goes from any state to the state after INIT"
(70_reset_and_hazards R353). -/
def resetPulse (s : State) : State := initSequence (enterReset s)

/-- The block at power-up, before INIT: the chain's contents are free values (70_reset_and_hazards
R345; log 4), nothing has been emitted or exchanged, and every other field holds a value that INIT
overwrites before anything reads it (log 4). -/
def State.powerUp (k : Config) : State :=
  { cfg := k
    sr := (List.range k.devices).map Config.powerUpBit
    cur := 0
    mode := []
    base := []
    acc := []
    chbuf := []
    rawbuf := []
    xout := []
    yout := []
    rspStatus := .ok
    rspResult := 0
    rspValid := false
    phase := .init
    busHeld := false
    trace := []
    rx := []
    drawn := 0
    frameRet := 0
    pending := [] }

end Sys2Proof.Machine
end

