-- ==== Sys2Proof/Machine/Port.lean ====
section
/-! DEFINITION. The ports: what the block does with each move of the world (spec 30_encoding R105,
R114; 60_exceptions R302, R313; 70_reset_and_hazards R353). -/

namespace Sys2Proof.Machine

/-- An accepted command that does not decode: `raise ILLEGAL_CMD(0)` (30_encoding R105,
60_exceptions R302). -/
def runIllegal (s : State) : Host.Outcome State Fault Refusal := .next (raise .illegalCmd s)

/-- Runs the instruction of a decoded host word, or answers ILLEGAL_CMD. -/
def runDecoded (d : Decoded) (s : State) : Host.Outcome State Fault Refusal :=
  match d with
  | .instr i => exec i s
  | .rejected _ => runIllegal s

/-- A command word is presented: accepted exactly when `cmd_ready` = 1, and then executed
(30_encoding R114); otherwise the model has no move (60_exceptions R313; log 8). -/
def acceptCommand (w : Command) (s : State) : Host.Outcome State Fault Refusal :=
  if cmdReady s then runDecoded (decodeHost w) { s with phase := .busy }
  else .refused .commandWhileNotReady

/-- The host takes the pending response: `rsp_valid` drops and the phase is READY (30_encoding
R114). With no response pending there is no handshake and nothing happens (log 7). -/
def takeResponse (s : State) : State :=
  if s.rspValid then { s with rspValid := false, phase := .ready } else s

/-- One move of the world. -/
def serve (m : Move) (s : State) : Host.Outcome State Fault Refusal :=
  match m with
  | .command w => acceptCommand w s
  | .takeResponse => .next (takeResponse s)
  | .reset => .next (resetPulse s)

/-- Serves the soonest move. With none, nothing is presented at the ports and the block waits
(30_encoding R114; log 6). -/
def serveNext (s : State) : Host.Outcome State Fault Refusal :=
  match s.pending with
  | [] => .next s
  | m :: rest => serve m { s with pending := rest }

/-- The state in which the next step accepts a host command word: it is the soonest move, and the
block is ready for it, any earlier response taken (log 6). -/
def presentCommand (w : Command) (s : State) : State :=
  { s with pending := .command w :: s.pending, phase := .ready, rspValid := false }

/-- The state in which the next step sends the ADC command word of mode `m` and channel `ch`: the
channel has that mode, and the host presents the ADC_READ of it at the current device (log 9). -/
def presentSender (m : Mode) (ch : Nat) (s : State) : State :=
  presentCommand (hostWord 0x2 s.cur.toNat ch false 0 0) (setMode ch m s)

/-- The state in which the next step runs the given word. For a 16-bit word that the block never
sends (30_encoding R111) nothing is presented. -/
def placeWord (e : EncodedWord) (s : State) : State :=
  match e with
  | .host64 w => presentCommand w s
  | .adc16 w =>
    match decodeAdc w with
    | .instr (.adcCmdSingle ch) => presentSender .single ch s
    | .instr (.adcCmdDiff ch) => presentSender .differential ch s
    | _ => s

end Sys2Proof.Machine
end

