-- ==== Sys2Proof/Machine/Step.lean ====
section
/-! DEFINITION. One step of the machine: one move of the world, a command being one atomic step
(spec 00_scope R21; 70_reset_and_hazards R351). -/

namespace Sys2Proof.Machine

/-- One step: the soonest pending move is served. -/
def step (s : State) : Host.Outcome State Fault Refusal := serveNext s

/-- The state with the instruction whose bits are `w` placed where the next step takes it. -/
def State.withFetchWord (s : State) (nbits w : Nat) : State := placeWord (wordOfBits nbits w) s

end Sys2Proof.Machine
end

