-- ==== Sys2Proof/Machine/Assembler.lean ====
section
/-! DEFINITION. The assembler of spec 30_encoding R112 and R113: one line of text to one 64-bit
command word. It is no part of a step; it says what a written command means. -/

namespace Sys2Proof.Machine

/-- What a line assembles to. -/
inductive Assembled where
  /-- A command word. -/
  | word (w : Command)
  /-- An empty line, or only a comment. -/
  | blank
  /-- No line of the syntax, or an operand outside its field's range: "must refuse ..., and must not
  truncate it" (30_encoding R112). -/
  | refused
deriving DecidableEq, Repr

/-- White space between the parts of a line (log 20). -/
def isBlank (c : Char) : Bool := c = ' ' || c = '\t'

/-- The characters without white space at either end. -/
def trimBlank (cs : List Char) : List Char :=
  ((cs.dropWhile isBlank).reverse.dropWhile isBlank).reverse

/-- The operands of a line: what stands between commas, white space trimmed; none where nothing
stands. An empty operand stays, and is no number. -/
def splitOperands (cs : List Char) : List (List Char) :=
  if trimBlank cs = [] then [] else (cs.splitOn ',').map trimBlank

/-- The value of a digit below the base. -/
def digitValue (base : Nat) (c : Char) : Option Nat :=
  let n := c.toNat
  let v := if 48 ≤ n ∧ n ≤ 57 then n - 48 else if 97 ≤ n ∧ n ≤ 102 then n - 87
    else if 65 ≤ n ∧ n ≤ 70 then n - 55 else base
  if v < base then some v else none

/-- The number of a non-empty list of digits. -/
def digitsValue (base : Nat) : List Char → Option Nat
  | [] => none
  | cs => cs.foldl (fun acc c => acc.bind fun a => (digitValue base c).map fun v => a * base + v)
      (some 0)

/-- "Numbers are decimal or `0x` hexadecimal" (30_encoding R112). -/
def parseNumber : List Char → Option Nat
  | '0' :: 'x' :: cs => digitsValue 16 cs
  | cs => digitsValue 10 cs

/-- The mode operand of SET_CONFIG: SINGLE or DIFF (30_encoding R112). -/
def parseMode (cs : List Char) : Option Mode :=
  if cs = "SINGLE".toList then some .single
  else if cs = "DIFF".toList then some .differential
  else none

/-- The channel operand of SET_CONFIG: a number or ALL (30_encoding R112, R113). -/
def parsePort (cs : List Char) : Option Nat :=
  if cs = "ALL".toList then some Config.allPorts else parseNumber cs

/-- The instruction that a mnemonic and its operands name (30_encoding R112, R113). -/
def parseInstr (name : List Char) (ops : List (List Char)) : Option Instr :=
  match ops with
  | [] =>
    if name = "SA_READ_ALL".toList then some .saReadAll
    else if name = "SA_READ_ALL_RAW".toList then some .saReadAllRaw
    else if name = "DESELECT".toList then some .deselect
    else none
  | [a] =>
    if name = "SELECT".toList then (parseNumber a).map .select
    else if name = "ADC_READ_ALL".toList then (parseNumber a).map .adcReadAll
    else if name = "GET_CONFIG".toList then (parseNumber a).map .getConfig
    else if name = "READ_BUF".toList then (parseNumber a).map .readBuf
    else none
  | [a, b] =>
    if name = "ADC_READ".toList then
      (parseNumber a).bind fun d => (parseNumber b).map fun c => .adcRead d c
    else if name = "SET_CONFIG".toList then
      (parseMode a).bind fun m => (parsePort b).map fun c => .setConfig m c
    else if name = "RAW_TO_VOLTAGE".toList then
      (parseNumber a).bind fun v => (parseNumber b).map fun r => .rawToVoltage v r
    else if name = "SA_READ_CHANNEL".toList then
      (parseNumber a).bind fun d => (parseNumber b).map fun c => .saReadChannel d c
    else none
  | _ => none

/-- The word of a well-formed host instruction; an operand outside its field is refused. -/
def assembleInstr (i : Instr) : Assembled :=
  if i.wellFormed then
    match encode i with
    | .host64 w => .word w
    | .adc16 _ => .refused
  else .refused

/-- The word of `.word64 value`: any 64-bit word (30_encoding R112). -/
def assembleWord (ops : List (List Char)) : Assembled :=
  match ops with
  | [a] =>
    match parseNumber a with
    | some n => if n < 2 ^ 64 then .word (BitVec.ofNat 64 n) else .refused
    | none => .refused
  | _ => .refused

/-- One line: the mnemonic, then its operands separated by commas; `;` starts a comment
(30_encoding R112). -/
def assembleLine (line : String) : Assembled :=
  let cs := trimBlank (line.toList.takeWhile fun c => c ≠ ';')
  let name := cs.takeWhile fun c => !isBlank c
  let rest := cs.dropWhile fun c => !isBlank c
  let ops := splitOperands rest
  if cs = [] then .blank
  else if name = ".word64".toList then assembleWord ops
  else match parseInstr name ops with
    | some i => assembleInstr i
    | none => .refused

/-! ## The text form of an instruction (30_encoding R112) -/

/-- A number in decimal. -/
def decimalText (n : Nat) : List Char := Nat.toDigits 10 n

/-- A number in `0x` hexadecimal. -/
def hexText (n : Nat) : List Char := '0' :: 'x' :: Nat.toDigits 16 n

/-- The mode operand as it is written. -/
def modeText : Mode → List Char
  | .single => "SINGLE".toList
  | .differential => "DIFF".toList

/-- A mnemonic and its operands as a line of the syntax. -/
def lineText (name : String) (operands : List (List Char)) : List Char :=
  match operands with
  | [] => name.toList
  | _ => name.toList ++ ' ' :: [',', ' '].intercalate operands

/-- The line of an instruction, its numbers written by `write`; the two ADC command words have no
text form, so theirs is empty. -/
def sourceText (write : Nat → List Char) : Instr → List Char
  | .select dev => lineText "SELECT" [write dev]
  | .adcRead dev ch => lineText "ADC_READ" [write dev, write ch]
  | .adcReadAll dev => lineText "ADC_READ_ALL" [write dev]
  | .getConfig ch => lineText "GET_CONFIG" [write ch]
  | .setConfig mode ch => lineText "SET_CONFIG" [modeText mode, write ch]
  | .rawToVoltage vref raw => lineText "RAW_TO_VOLTAGE" [write vref, write raw]
  | .saReadAll => lineText "SA_READ_ALL" []
  | .saReadAllRaw => lineText "SA_READ_ALL_RAW" []
  | .saReadChannel dev ch => lineText "SA_READ_CHANNEL" [write dev, write ch]
  | .readBuf addr => lineText "READ_BUF" [write addr]
  | .adcCmdSingle _ => []
  | .adcCmdDiff _ => []

end Sys2Proof.Machine
end

