-- ==== Sys2Proof/Safety.lean ====
section
/-! DEFINITION. The terms that claims about the block use: what the wire shows, what a good state
is, and the closed forms of what a command reads (spec 10_state R34, 20_memory R84, 40_selector
R149, 43_sensor_array R243, R244). -/

namespace Sys2Proof.Machine

/-! ## What the events show -/

/-- The chain after the shifts among some events (40_selector R140): the other events do not touch
it. -/
def replayChain (n : Nat) : List Bool → List Event → List Bool
  | sr, [] => sr
  | sr, .srShift b :: es => replayChain n ((b :: sr).take n) es
  | sr, _ :: es => replayChain n sr es

/-- The number of SR_SHIFT events. -/
def shiftCount (es : List Event) : Nat :=
  es.countP fun e => match e with
    | .srShift _ => true
    | _ => false

/-- The number of frames begun: SPI_BEGIN events. -/
def frameCount (es : List Event) : Nat := es.count .spiBegin

/-- The byte patterns of the three exchanges of a frame, by position (30_encoding R109, R111). -/
def patternByte (position : Nat) (tx : Byte) : Bool :=
  match position with
  | 1 => decide (tx = 0x04 ∨ tx = 0x05 ∨ tx = 0x06 ∨ tx = 0x07)
  | 2 => decide (tx = 0x00 ∨ tx = 0x40 ∨ tx = 0x80 ∨ tx = 0xC0)
  | 3 => decide (tx = 0x00)
  | _ => false

/-- One event against the bus bracket: 0 is no bracket open, k + 1 is a bracket open after k
exchanges. No shift inside a bracket, no exchange outside, three exchanges in each, no nesting
(20_memory R82, R84). -/
def bracketStep : Nat → Event → Option Nat
  | 0, .srShift _ => some 0
  | 0, .spiBegin => some 1
  | 4, .spiEnd => some 0
  | n + 1, .spiXfer tx _ => if n < 3 ∧ patternByte (n + 1) tx then some (n + 2) else none
  | _, _ => none

/-- A list of events against the bus bracket. -/
def bracketRun : Nat → List Event → Option Nat
  | n, [] => some n
  | n, e :: es => (bracketStep n e).bind fun m => bracketRun m es

/-- Every exchange lies in a closed bracket of exactly three, and sends one of the 16 words
(20_memory R84, 30_encoding R111). -/
abbrev WellBracketed (es : List Event) : Prop := bracketRun 0 es = some 0

/-- At most one line is asserted (40_selector R142). -/
abbrev AtMostOneLow (sr : List Bool) : Prop := sr.count false ≤ 1

/-- After some events from a chain `sr`, line `k` has just been asserted: the last event is the
shift that took it from 1 to 0, and only it is asserted (40_selector R150). -/
def JustAsserted (n : Nat) (sr : List Bool) (es : List Event) (k : Nat) : Prop :=
  1 ≤ k ∧ k ≤ n ∧ ∃ before b, es = before ++ [.srShift b] ∧
    (replayChain n sr before).getD (k - 1) true = true ∧ replayChain n sr es = chainSelecting n k

/-! ## Good states -/

/-- The correspondence invariant of 10_state R34: the chain shows exactly what CUR says. -/
abbrev Corresponds (s : State) : Prop :=
  s.cur.toNat ≤ s.cfg.devices ∧ s.sr = chainSelecting s.cfg.devices s.cur.toNat

/-- Every row of a table has the same length, and there are so many rows. -/
abbrev HasShape {α : Type} (m : List (List α)) (rows cols : Nat) : Prop :=
  m.length = rows ∧ ∀ r ∈ m, r.length = cols

/-- The tables have the sizes of 10_state R35 to R40. -/
abbrev Shaped (s : State) : Prop :=
  s.mode.length = 8 ∧ HasShape s.base s.cfg.devices s.cfg.channels ∧
    HasShape s.acc s.cfg.devices s.cfg.channels ∧ s.chbuf.length = 8 ∧
    HasShape s.rawbuf s.cfg.devices s.cfg.channels ∧
    s.xout.length = s.cfg.devices ∧ s.yout.length = s.cfg.devices

/-- A raw reading: bits 15..12 are zero (20_memory R75). -/
abbrev IsReading (v : Half) : Prop := v.toNat ≤ 4095

/-- A stored X or Y value lies in -8190..8190 (10_state R40, 43_sensor_array R246). -/
abbrev IsDifference (v : Half) : Prop := -8190 ≤ v.toInt ∧ v.toInt ≤ 8190

/-- The stored words are in the ranges that the spec gives them; CHBUF[C..7] is never written after
reset, so it reads 0 (10_state R38, R40; 20_memory R75; 44_buffer_access R280). -/
abbrev InRange (s : State) : Prop :=
  (∀ v ∈ s.chbuf, IsReading v) ∧ (∀ v ∈ s.chbuf.drop s.cfg.channels, v = 0) ∧
    (∀ r ∈ s.rawbuf, ∀ v ∈ r, IsReading v) ∧
    (∀ v ∈ s.xout, IsDifference v) ∧ (∀ v ∈ s.yout, IsDifference v)

/-- The wire so far: well bracketed, and its shifts leave the chain as it is. -/
abbrev WireAgrees (s : State) : Prop :=
  WellBracketed s.trace ∧ replayChain s.cfg.devices [] s.trace = s.sr

/-- A state between two commands: the parameters are in range, the tables have their sizes and
ranges, CUR and the chain correspond, the bus is free, the wire is in order, the phase is READY. -/
abbrev Good (s : State) : Prop :=
  s.cfg.wellFormed = true ∧ Shaped s ∧ Corresponds s ∧ InRange s ∧ WireAgrees s ∧
    s.busHeld = false ∧ s.phase = .ready

/-! ## Closed forms of what a command reads

Every reading of a command is one READ_CORE, in order; reading j uses the answers 3j, 3j + 1 and
3j + 2 from the start of the command. -/

/-- The value of the j-th reading from now on. -/
def State.readingAt (s : State) (j : Nat) : Half := readingOf s.nextByte j

/-- The events of the j-th reading from now on, of channel c of device d, when the current select
index is then c0 (40_selector R145, 41_adc_protocol R172). -/
def State.readEvents (s : State) (c0 d c j : Nat) : List Event :=
  selectEvents s.cfg.devices c0 d ++
    frameEvents (adcWord (s.modeAt c).isSingle c) (s.nextByte (3 * j)) (s.nextByte (3 * j + 1))
      (s.nextByte (3 * j + 2))

/-- The events of n readings from now on, the j-th of channel `chan j` of device `dev j`: each finds
the device of the one before it selected. -/
def State.sweepEvents (s : State) (dev chan : Nat → Nat) (n : Nat) : List Event :=
  (List.range n).flatMap fun j =>
    s.readEvents (if j = 0 then s.cur.toNat else dev (j - 1)) (dev j) (chan j) j

/-- What n readings leave in the fields that every reading touches, when the last one was of device
d (40_selector R143, 41_adc_protocol R172). The trace gets `es`. -/
def State.afterReads (s : State) (d n : Nat) (es : List Event) : State :=
  { s with
    sr := chainSelecting s.cfg.devices d
    cur := BitVec.ofNat 8 d
    trace := s.trace ++ es
    busHeld := false
    rx := s.rx.drop (3 * n)
    drawn := s.drawn + 3 * n
    frameRet := s.readingAt (n - 1) }

/-- What n readings of an invalid device leave: everything deselected, no frame (40_selector R143). -/
def State.afterDeselects (s : State) (n : Nat) : State :=
  { s with
    sr := List.replicate s.cfg.devices true
    cur := 0
    trace := s.trace ++ List.replicate (n * s.cfg.devices) (.srShift true) }

/-- What a response leaves in the response registers (10_state R41). -/
def State.responded (s : State) (st : Status) (r : Result) : State :=
  { s with rspStatus := st, rspResult := r, rspValid := true, phase := .ready }

/-- The averaged readings of plate p in a SA_READ_ALL: reading (p * AVG_N + k) * 4 + c is sample k
of channel c (43_sensor_array R243). -/
def State.plateMeans (s : State) (p : Nat) : List Nat :=
  (List.range 4).map fun c =>
    ((List.range s.cfg.avgN).map fun k =>
      (s.readingAt ((p * s.cfg.avgN + k) * 4 + c)).toNat).sum / s.cfg.avgN

/-- The pair (X, Y) that a SA_READ_ALL computes for plate p (43_sensor_array R242, R243). -/
def State.plateXY (s : State) (p : Nat) : Int × Int := plateDiff (s.plateMeans p) (plateBaselines p s)

/-- The host commands, that is all rows of the opcode table but the two ADC16 words. -/
def isCommand : Instr → Bool
  | .adcCmdSingle _ => false
  | .adcCmdDiff _ => false
  | _ => true

end Sys2Proof.Machine
end

