-- ==== Sys2Proof/Certificates/Slice0/Obligations.lean ====
section
/-! DEFINITION. The statements about the model. Each docstring names the rule of spec/ it formalises;
OBLIGATIONS.json lists them.

Where a conclusion is an equation `exec i s = .next t` with t written out, it says at once that the
instruction completes, what it changes, and that it changes nothing else. -/

open Sys2Proof Sys2Proof.Machine

/-! ## Encoding -/

/-- Decoding gives back every well-formed instruction from its word, with every operand at every
value its field admits (30_encoding R101, R104, R105, R108). -/
def Obligations.DecodingInvertsEncoding : Prop :=
  ∀ i : Instr, i.wellFormed = true → decode (encode i) = .instr i

/-- Each word has at most one meaning: what decodes to an instruction is that instruction's own
word, and the instruction is well formed (30_encoding R104, R105, R108). -/
def Obligations.EncodingInvertsDecoding : Prop :=
  ∀ (w : EncodedWord) (i : Instr), decode w = .instr i → i.wellFormed = true ∧ encode i = w

/-- Words of 95_test_vectors and of the rules' examples, one of each family. -/
def Obligations.WordsOfTheSpecDecode : Prop :=
  decodeHost 0x1030000000000000 = .instr (.select 3) ∧
  decodeHost 0x2020100000000000 = .instr (.adcRead 2 1) ∧
  decodeHost 0x5000380000000000 = .instr (.setConfig .single 3) ∧
  decodeHost 0x9020100000000000 = .instr (.saReadChannel 2 1) ∧
  decodeHost 0xA000000000000410 = .instr (.readBuf 0x0410) ∧
  decodeAdc 0x0740 = .instr (.adcCmdSingle 5) ∧
  decodeHost 0x1001000000000000 = .rejected .mustBeZero

/-- The bits that a command with opcode `op` does not use and that must be zero: the mask of
30_encoding R104 without the opcode. -/
def unusedBits : Nat → Command
  | 0x1 => 0x000FFFFFFFFFFFFF
  | 0x2 => 0x00000FFFFFFFFFFF
  | 0x3 => 0x000FFFFFFFFFFFFF
  | 0x4 => 0x0FF00FFFFFFFFFFF
  | 0x5 => 0x0FF007FFFFFFFFFF
  | 0x6 => 0x0FFFFFFF00000000
  | 0x7 => 0x0FFFFFFFFFFFFFFF
  | 0x8 => 0x0FFFFFFFFFFFFFFF
  | 0x9 => 0x00000FFFFFFFFFFF
  | 0xA => 0x0FFFFFFFFFFF0000
  | _ => 0

/-- A word is illegal: reserved OP 0x0 or 0xB..0xF, or a must-be-zero field that is not zero
(30_encoding R105). -/
def IllegalWord (w : Command) : Prop :=
  w.toNat / 2 ^ 60 = 0 ∨ 0xB ≤ w.toNat / 2 ^ 60 ∨ w &&& unusedBits (w.toNat / 2 ^ 60) ≠ 0

/-- Decoding is total and refuses exactly the illegal words; at most one row matches (30_encoding
R105). -/
def Obligations.ExactlyTheIllegalWordsAreRefused : Prop :=
  ∀ w : Command,
    ((∃ e, decodeHost w = .rejected e) ↔ IllegalWord w) ∧
    (∀ r ∈ hostRows, ∀ r' ∈ hostRows,
      w &&& r.mask = r.matchBits → w &&& r'.mask = r'.matchBits → r.matchBits = r'.matchBits)

/-- The ADC command word of channel c: START, the channel's own mode, the channel, zeros elsewhere;
and the bytes the frame sends (30_encoding R108, R109; 41_adc_protocol R170). -/
def Obligations.AdcCommandWordLayout : Prop :=
  ∀ (s : State) (c : Nat), c < 8 →
    (encodeChannel c s).toNat = 0x0400 + (if s.modeAt c = .single then 0x0200 else 0) + 64 * c ∧
    (firstByte (encodeChannel c s)).toNat =
      4 + (if s.modeAt c = .single then 2 else 0) + c / 4 ∧
    (secondByte (encodeChannel c s)).toNat = c % 4 * 64

/-- DECODE (41_adc_protocol R171): the low nibble of the second byte and the third byte; always in
0..4095; the high nibble does not matter; and its two examples. -/
def Obligations.DecodeFormsTheTwelveBitResult : Prop :=
  (∀ r2 r3 : Byte,
    (adcDecode r2 r3).toNat = r2.toNat % 16 * 256 + r3.toNat ∧
    (adcDecode r2 r3).toNat ≤ 4095 ∧ adcDecode (r2 ||| 0xF0) r3 = adcDecode r2 r3) ∧
  adcDecode 0xEA 0x5C = 0x0A5C ∧ adcDecode 0xF0 0x00 = 0

/-- The assembler on lines of text (30_encoding R112, R113). A line that spells a host instruction,
its numbers in decimal or in `0x` hexadecimal, assembles to a word that decodes to it; where an
operand is outside its field the line is refused, never truncated. `.word64` gives any 64-bit word
and refuses a larger number; DESELECT is SELECT 0; ALL is 0xFF; `;` starts a comment. -/
def Obligations.AssemblingRefusesWhatDoesNotFit : Prop :=
  (∀ write, write = decimalText ∨ write = hexText →
    (∀ i : Instr, isCommand i = true →
      (i.wellFormed = true →
        ∃ w, assembleLine (String.ofList (sourceText write i)) = .word w ∧
          decodeHost w = .instr i) ∧
      (i.wellFormed = false → assembleLine (String.ofList (sourceText write i)) = .refused)) ∧
    ∀ n : Nat, assembleLine (String.ofList (".word64 ".toList ++ write n)) =
      if n < 2 ^ 64 then .word (BitVec.ofNat 64 n) else .refused) ∧
  assembleLine "DESELECT" = .word 0x1000000000000000 ∧
  assembleLine "SET_CONFIG SINGLE, ALL" = assembleInstr (.setConfig .single 0xFF) ∧
  assembleLine "SET_CONFIG DIFF, ALL" = assembleInstr (.setConfig .differential 0xFF) ∧
  ∀ line comment : List Char,
    assembleLine (String.ofList (line ++ ';' :: comment)) = assembleLine (String.ofList line)

/-! ## The step -/

/-- A STEP RUNS THE DECODED COMMAND: when the soonest move presents a word that decodes to i and
`cmd_ready` = 1, the step is exec of i, on the state with the move taken and the phase BUSY
(30_encoding R114, 00_scope R21); and `withFetchWord` gives such a state (log 6). -/
def Obligations.StepRunsTheDecodedCommand : Prop :=
  (∀ (s : State) (w : Command) (rest : List Move) (i : Instr),
    s.pending = .command w :: rest → s.phase = .ready → s.rspValid = false →
    decodeHost w = .instr i →
    step s = exec i { s with pending := rest, phase := .busy }) ∧
  (∀ (s : State) (w : Command) (i : Instr), decodeHost w = .instr i →
    step (s.withFetchWord 64 w.toNat) = exec i { s with phase := .busy, rspValid := false })

/-- The same for an ADC command word, which is sent inside a command (30_encoding R103): when the
soonest move presents the ADC_READ of channel ch of the current device, in the mode of the word, the
step is exec of the ADC16 row; and `withFetchWord` gives such a state (log 9). -/
def Obligations.StepRunsTheDecodedFrame : Prop :=
  ∀ (s : State) (w : Half) (i : Instr) (m : Mode) (ch : Nat), decodeAdc w = .instr i →
    (i = .adcCmdSingle ch ∧ m = .single ∨ i = .adcCmdDiff ch ∧ m = .differential) →
    (∀ (read : Command) (rest : List Move),
      encode (.adcRead s.cur.toNat ch) = .host64 read → s.pending = .command read :: rest →
      s.phase = .ready → s.rspValid = false → s.modeAt ch = m →
      step s = exec i { s with pending := rest, phase := .busy }) ∧
    (s.mode.length = 8 → step (s.withFetchWord 16 w.toNat) =
      exec i { s with mode := s.mode.set ch m, phase := .busy, rspValid := false })

/-- An illegal word responds (ILLEGAL_CMD, 0), changes no other state and emits no event
(60_exceptions R302). -/
def Obligations.IllegalWordOnlyResponds : Prop :=
  ∀ (s : State) (w : Command) (rest : List Move),
    s.pending = .command w :: rest → s.phase = .ready → s.rspValid = false → IllegalWord w →
    step s = .next
      { s with pending := rest, rspStatus := .illegalCmd, rspResult := 0, rspValid := true }

/-- A command presented while `cmd_ready` = 0 has no move (60_exceptions R313; log 8). -/
def Obligations.NoMoveForACommandBeforeReady : Prop :=
  ∀ (s : State) (w : Command) (rest : List Move),
    s.pending = .command w :: rest → (s.phase ≠ .ready ∨ s.rspValid = true) →
    step s = .refused .commandWhileNotReady

/-- The handshake of 30_encoding R114: every command leaves exactly one response pending, with which
`cmd_ready` = 0; taking it is one step that changes nothing but `rsp_valid`, and then `cmd_ready`
= 1. That the phase is READY already before the response is taken is the model's reading (log 7). -/
def Obligations.OneResponsePerCommand : Prop :=
  ∀ (i : Instr) (s : State), isCommand i = true →
    ∃ t, exec i s = .next t ∧ t.rspValid = true ∧ t.phase = .ready ∧ cmdReady t = false ∧
      ∀ rest, step { t with pending := .takeResponse :: rest } =
          .next { t with pending := rest, rspValid := false } ∧
        cmdReady { t with pending := rest, rspValid := false } = true

/-! ## The selector -/

/-- SELECT of a device 1..D ends with CUR = dev and only line dev selected, by exactly the shifts of
40_selector R145, responds (OK, 0), and changes nothing else (R143, R144). -/
def Obligations.SelectSelectsTheDevice : Prop :=
  ∀ (s : State) (dev : Nat), s.cfg.wellFormed = true → Corresponds s →
    1 ≤ dev → dev ≤ s.cfg.devices →
    exec (.select dev) s = .next
      ({ s with
          sr := chainSelecting s.cfg.devices dev
          cur := BitVec.ofNat 8 dev
          trace := s.trace ++ selectEvents s.cfg.devices s.cur.toNat dev }.responded .ok 0)

/-- A device index outside 1..D is silent: the four commands that take a device deselect everything,
set CUR to 0, run no frame, and respond OK; ADC_READ_ALL writes 0 to CHBUF[0..C-1]; the host sees it
only by reading CUR (60_exceptions R307). -/
def Obligations.InvalidDeviceIsSilent : Prop :=
  ∀ (s : State) (dev ch : Nat), s.cfg.wellFormed = true → Shaped s →
    (dev = 0 ∨ s.cfg.devices < dev) → ch < s.cfg.channels →
    exec (.select dev) s = .next ((s.afterDeselects 1).responded .ok 0) ∧
    exec (.adcRead dev ch) s = .next ((s.afterDeselects 1).responded .ok 0) ∧
    exec (.adcReadAll dev) s = .next
      ({ s.afterDeselects s.cfg.channels with
          chbuf := List.replicate s.cfg.channels 0 ++ s.chbuf.drop s.cfg.channels }.responded .ok 1) ∧
    exec (.saReadChannel dev ch) s = .next ((s.afterDeselects 1).responded .ok 0) ∧
    ∀ n, exec (.readBuf 0x0400) (s.afterDeselects n) =
      .next ((s.afterDeselects n).responded .ok 0)

/-- Selecting a device twice leaves the state of selecting it once, but for the events: the second
call emits N + t further shifts (40_selector R147). -/
def Obligations.SelectingTwiceIsSelectingOnce : Prop :=
  ∀ (s : State) (t : Nat), s.cfg.wellFormed = true → Corresponds s → 1 ≤ t → t ≤ s.cfg.devices →
    (selectCore t s).2.cur.toNat = t ∧ (selectCore t s).2.sr = chainSelecting s.cfg.devices t ∧
    ∃ es, shiftCount es = s.cfg.devices + t ∧ es.length = s.cfg.devices + t ∧
      selectCore t (selectCore t s).2 =
        (true, { (selectCore t s).2 with trace := (selectCore t s).2.trace ++ es })

/-- SR_SETALL(b) fills the chain whatever it held, with exactly N shifts of b, and after k of its N
advances the first k stages hold b (40_selector R140, R141). -/
def Obligations.SetAllIgnoresWhatTheChainHeld : Prop :=
  ∀ (s : State) (b : Bool) (held : List Bool), 1 ≤ s.cfg.devices →
    (srSetAll b { s with sr := held }).sr = (srSetAll b s).sr ∧
    (∀ x ∈ (srSetAll b s).sr, x = b) ∧ (srSetAll b s).sr.length = s.cfg.devices ∧
    (∀ k, k ≤ s.cfg.devices →
      (repeatTimes k (srAdvance b) { s with sr := held }).sr.take k = List.replicate k b) ∧
    ∃ es, (srSetAll b s).trace = s.trace ++ es ∧ es.length = s.cfg.devices ∧
      ∀ e ∈ es, e = .srShift b

/-- The states of the block's chain inside a selection (40_selector R149): from line k selected the
j-th SR_ADVANCE(1) leaves line k + j asserted, or none once that passes the end; the N advances of an
SR_SETALL(1) are such advances; SR_ADVANCE(0) after it asserts line 1; and a selection emits shifts
only, so that no SPI event falls between them. -/
def Obligations.PassedLinesAreAssertedInTurn : Prop :=
  (∀ (s : State) (k j : Nat), 1 ≤ k → k ≤ s.lines → s.sr = chainSelecting s.lines k →
    (repeatTimes j (srAdvance true) s).sr =
      chainSelecting s.lines (if k + j ≤ s.lines then k + j else 0)) ∧
  (∀ s : State, srSetAll true s = repeatTimes s.lines (srAdvance true) s) ∧
  (∀ s : State, 1 ≤ s.lines →
    (srAdvance false (srSetAll true s)).sr = chainSelecting s.lines 1) ∧
  (∀ (s : State) (t : Nat), ∃ bits : List Bool,
    (selectCore t s).2.trace = s.trace ++ bits.map Event.srShift)

/-- At every point of every instruction at most one line is asserted (40_selector R142). -/
def Obligations.AtMostOneLineAssertedThroughout : Prop :=
  ∀ (i : Instr) (s t : State), s.cfg.wellFormed = true → Corresponds s → exec i s = .next t →
    ∃ es, t.trace = s.trace ++ es ∧
      ∀ before after, es = before ++ after → AtMostOneLow (replayChain s.cfg.devices s.sr before)

/-- Every frame of every instruction follows, within the instruction, a shift that has just asserted
the chip select of one device, with nothing in between; so no frame runs with no device selected
(40_selector R150, 41_adc_protocol R172). -/
def Obligations.EveryFrameFollowsAFreshSelect : Prop :=
  ∀ (i : Instr) (s t : State), s.cfg.wellFormed = true → Corresponds s → exec i s = .next t →
    ∃ es, t.trace = s.trace ++ es ∧
      ∀ before after, es = before ++ .spiBegin :: after →
        ∃ k, JustAsserted s.cfg.devices s.sr before k

/-- The correspondence invariant of 10_state R34, in its own words, after every instruction that
starts from it and after every reset pulse. -/
def Obligations.CurAndChainAgree : Prop :=
  (∀ (i : Instr) (s t : State), s.cfg.wellFormed = true → Corresponds s → exec i s = .next t →
    Corresponds t) ∧
  (∀ s : State, s.cfg.wellFormed = true → Corresponds (resetPulse s)) ∧
  (∀ s : State, Corresponds s →
    s.sr.length = s.cfg.devices ∧
    (s.cur.toNat = 0 → ∀ k, k < s.cfg.devices → s.sr.getD k false = true) ∧
    (1 ≤ s.cur.toNat → ∀ k, k < s.cfg.devices →
      s.sr.getD k false = decide (k ≠ s.cur.toNat - 1)))

/-! ## The ADC protocol engine -/

/-- ADC_READ of a valid device and channel selects, runs one frame with the channel's command word,
and responds OK with the 12-bit reading; it changes nothing else (41_adc_protocol R174, R175). -/
def Obligations.AdcReadReturnsTheReading : Prop :=
  ∀ (s : State) (dev ch : Nat), s.cfg.wellFormed = true → Corresponds s →
    1 ≤ dev → dev ≤ s.cfg.devices → ch < s.cfg.channels →
    exec (.adcRead dev ch) s = .next
      ((s.afterReads dev 1 (s.readEvents s.cur.toNat dev ch 0)).responded .ok
        ((s.readingAt 0).zeroExtend 32))

/-- CHANNEL_ERROR is raised by ADC_READ and SA_READ_CHANNEL exactly for `ch >= C`, whatever the
device, with no selection and no frame; the commands that loop over channels cannot raise it
(60_exceptions R303). -/
def Obligations.ChannelErrorComesBeforeSelection : Prop :=
  (∀ (s : State) (dev ch : Nat), s.cfg.channels ≤ ch →
    exec (.adcRead dev ch) s = .next (s.responded .channelError 0x8000) ∧
    exec (.saReadChannel dev ch) s = .next (s.responded .channelError 0x8000)) ∧
  (∀ (i : Instr) (s t : State), exec i s = .next t → isCommand i = true →
    t.rspStatus = .channelError →
    ∃ dev ch, s.cfg.channels ≤ ch ∧ (i = .adcRead dev ch ∨ i = .saReadChannel dev ch))

/-- ADC_READ_ALL of a valid device reads its C channels in order into CHBUF[0..C-1], each with its own
selection and frame, and responds (OK, 1); CHBUF[C..7] and all else stay (41_adc_protocol R176). -/
def Obligations.AdcReadAllFillsTheChannelBuffer : Prop :=
  ∀ (s : State) (dev : Nat), s.cfg.wellFormed = true → Shaped s → Corresponds s →
    1 ≤ dev → dev ≤ s.cfg.devices →
    exec (.adcReadAll dev) s = .next
      ({ s.afterReads dev s.cfg.channels
            (s.sweepEvents (fun _ => dev) (fun j => j) s.cfg.channels) with
          chbuf := (List.range s.cfg.channels).map s.readingAt ++ s.chbuf.drop s.cfg.channels
        }.responded .ok 1)

/-- The two ADC16 rows, run in the ADC_READ of the current device that sends their word (log 9), where
the channel's mode is the word's (41_adc_protocol R170 to R172, R174, R175): with a device selected,
its selection anew, the frame of that word, three answers taken, and the reading as response; with
none selected, no frame and the response (OK, 0). The chain and CUR end as they were. A channel from C
on gives CHANNEL_ERROR, and in the other mode the block sends no such word. -/
def Obligations.AdcCommandWordsSendTheirFrame : Prop :=
  ∀ (s : State) (ch : Nat) (i : Instr) (m : Mode) (first second : Byte),
    s.cfg.wellFormed = true → Corresponds s →
    (i = .adcCmdSingle ch ∧ m = .single ∧ first.toNat = 6 + ch / 4 ∨
      i = .adcCmdDiff ch ∧ m = .differential ∧ first.toNat = 4 + ch / 4) →
    second.toNat = ch % 4 * 64 →
    (s.modeAt ch = m → ch < s.cfg.channels → s.cur.toNat ≠ 0 → exec i s = .next
      ({ s with
          trace := s.trace ++ selectEvents s.cfg.devices s.cur.toNat s.cur.toNat ++
            [Event.spiBegin, .spiXfer first (s.nextByte 0), .spiXfer second (s.nextByte 1),
              .spiXfer 0 (s.nextByte 2), .spiEnd]
          busHeld := false
          rx := s.rx.drop 3
          drawn := s.drawn + 3
          frameRet := adcDecode (s.nextByte 1) (s.nextByte 2)
        }.responded .ok ((adcDecode (s.nextByte 1) (s.nextByte 2)).zeroExtend 32))) ∧
    (s.modeAt ch = m → ch < s.cfg.channels → s.cur.toNat = 0 → exec i s = .next
      ({ s with
          trace := s.trace ++ List.replicate s.cfg.devices (Event.srShift true)
        }.responded .ok 0)) ∧
    (s.modeAt ch = m → s.cfg.channels ≤ ch →
      exec i s = .next (s.responded .channelError 0x8000)) ∧
    (s.modeAt ch ≠ m → exec i s = .refused .adcWordNotSent)

/-- Every bus bracket that an instruction opens it closes, after exactly three exchanges of one of
the 16 words; nothing is exchanged outside a bracket, and no instruction ends with the bus held
(41_adc_protocol R173, 20_memory R84). -/
def Obligations.TheBusIsAlwaysReleased : Prop :=
  ∀ (i : Instr) (s t : State), exec i s = .next t →
    (∃ es, t.trace = s.trace ++ es ∧ WellBracketed es) ∧ (s.busHeld = false → t.busHeld = false)

/-- The first answer of a frame and the high nibble of the second are never read: two states whose
answers give the same readings have the same next state but for the answers and the trace
(30_encoding R110). -/
def Obligations.UnusedAnswerBitsDoNotMatter : Prop :=
  ∀ (i : Instr) (s t t' : State) (answers : List Byte),
    (∀ j, s.readingAt j = { s with rx := answers }.readingAt j) →
    exec i s = .next t → exec i { s with rx := answers } = .next t' →
    t' = { t with rx := t'.rx, trace := t'.trace }

/-! ## Mode table and conversion -/

/-- GET_CONFIG responds the mode bit of channels 0..7, and RANGE_ERROR with 0x8001 from 8 on, and
changes nothing else (42_config R210, 60_exceptions R304). -/
def Obligations.GetConfigReadsTheTable : Prop :=
  ∀ (s : State) (ch : Nat),
    (ch < 8 → s.modeAt ch = .single → exec (.getConfig ch) s = .next (s.responded .ok 1)) ∧
    (ch < 8 → s.modeAt ch = .differential → exec (.getConfig ch) s = .next (s.responded .ok 0)) ∧
    (8 ≤ ch → exec (.getConfig ch) s = .next (s.responded .rangeError 0x8001))

/-- SET_CONFIG to a channel 8..254 fails and changes nothing; that is the only way to CONFIG_FAIL
(60_exceptions R305). -/
def Obligations.SetConfigFailsOutOfRange : Prop :=
  (∀ (s : State) (b : Mode) (ch : Nat), 8 ≤ ch → ch ≤ 254 →
    exec (.setConfig b ch) s = .next (s.responded .configFail 0)) ∧
  (∀ (i : Instr) (s t : State), i.wellFormed = true → isCommand i = true → exec i s = .next t →
    t.rspStatus = .configFail → ∃ b ch, i = .setConfig b ch ∧ 8 ≤ ch ∧ ch ≤ 254)

/-- SET_CONFIG to ALL_PORTS gives all eight entries the mode, and changes nothing else (42_config
R211). -/
def Obligations.SetConfigAllWritesEveryEntry : Prop :=
  ∀ (s : State) (b : Mode), s.mode.length = 8 →
    exec (.setConfig b 0xFF) s = .next ({ s with mode := List.replicate 8 b }.responded .ok 1)

/-- The pairing properties of 42_config R212: DIFFERENTIAL takes the partner along, SINGLE does not,
no other entry changes, the partner is always in 0..7, and a pair comes apart only by a SINGLE. -/
def Obligations.DifferentialPairing : Prop :=
  (∀ (s : State) (b : Mode) (c : Nat), s.mode.length = 8 → c < 8 →
    ∃ m, exec (.setConfig b c) s = .next ({ s with mode := m }.responded .ok 1) ∧
      m.length = 8 ∧ m.getD c .single = b ∧
      m.getD (c ^^^ 1) .single = (if b = .differential then .differential else s.modeAt (c ^^^ 1)) ∧
      ∀ e, e ≠ c → e ≠ c ^^^ 1 → m.getD e .single = s.modeAt e) ∧
  (∀ c : Nat, c < 8 → c ^^^ 1 < 8 ∧ (c ^^^ 1) / 2 = c / 2 ∧ c ^^^ 1 ≠ c) ∧
  (∀ (i : Instr) (s t : State) (c : Nat), s.mode.length = 8 → c < 8 → exec i s = .next t →
    s.modeAt c = s.modeAt (c ^^^ 1) → t.modeAt c = .single → t.modeAt (c ^^^ 1) = .differential →
    i = .setConfig .single c ∧ s.modeAt c = .differential)

/-- RAW_TO_VOLTAGE responds the exact product, and changes nothing else (42_config R213). -/
def Obligations.RawToVoltageIsTheExactProduct : Prop :=
  ∀ (s : State) (vref raw : Nat), vref < 65536 → raw < 65536 →
    ∃ r : Result, r.toNat = raw * vref ∧
      exec (.rawToVoltage vref raw) s = .next (s.responded .ok r)

/-- The properties of 42_config R214: zero, one LSB below vref at 4095, monotone in both operands,
and exact; with its example vectors. -/
def Obligations.RawToVoltageProperties : Prop :=
  (∀ (s : State) (vref raw : Nat), vref < 65536 → raw < 65536 →
    ∃ t, exec (.rawToVoltage vref raw) s = .next t ∧ t.rspResult.toNat = raw * vref ∧
      (raw = 0 ∨ vref = 0 → t.rspResult.toNat = 0) ∧
      (raw ≤ 4095 → 0 < vref → t.rspResult.toNat < 4096 * vref ∧
        4096 * vref - t.rspResult.toNat = vref * (4096 - raw)) ∧
      ∀ vref' raw', vref ≤ vref' → raw ≤ raw' → vref' < 65536 → raw' < 65536 →
        ∃ t', exec (.rawToVoltage vref' raw') s = .next t' ∧
          t.rspResult.toNat ≤ t'.rspResult.toNat) ∧
  (∀ s : State, exec (.rawToVoltage 5 4095) s = .next (s.responded .ok 0x00004FFB) ∧
    exec (.rawToVoltage 5 0) s = .next (s.responded .ok 0))

/-- A mode change takes effect at the very next frame of that channel: the frame's word carries it
(70_reset_and_hazards R354, 41_adc_protocol R170). -/
def Obligations.ModeTakesEffectAtTheNextFrame : Prop :=
  ∀ (s : State) (b : Mode) (dev ch : Nat), s.cfg.wellFormed = true → s.mode.length = 8 →
    Corresponds s → 1 ≤ dev → dev ≤ s.cfg.devices → ch < s.cfg.channels →
    ∃ t u, exec (.setConfig b ch) s = .next t ∧ exec (.adcRead dev ch) t = .next u ∧
      u.trace = s.trace ++ selectEvents s.cfg.devices s.cur.toNat dev ++
        frameEvents (adcWord b.isSingle ch) (s.nextByte 0) (s.nextByte 1) (s.nextByte 2)

/-! ## The sensor array -/

/-- SA_READ_ALL_RAW reads every channel of every device in order into RAWBUF, and changes nothing else
(43_sensor_array R244). -/
def Obligations.SaReadAllRawFillsTheRawBuffer : Prop :=
  ∀ s : State, s.cfg.wellFormed = true → Shaped s → Corresponds s →
    exec .saReadAllRaw s = .next
      ({ s.afterReads s.cfg.devices (s.cfg.devices * s.cfg.channels)
            (s.sweepEvents (fun j => j / s.cfg.channels + 1) (fun j => j % s.cfg.channels)
              (s.cfg.devices * s.cfg.channels)) with
          rawbuf := (List.range s.cfg.devices).map fun p =>
            (List.range s.cfg.channels).map fun c => s.readingAt (p * s.cfg.channels + c)
        }.responded .ok 0)

/-- SA_READ_ALL takes AVG_N passes over the four channels of each plate, averages, subtracts the
baselines, and overwrites every X and Y slot with the differences; nothing else changes
(43_sensor_array R242, R243). -/
def Obligations.SaReadAllStoresTheDifferences : Prop :=
  ∀ s : State, s.cfg.wellFormed = true → Shaped s → Corresponds s →
    exec .saReadAll s = .next
      ({ s.afterReads s.cfg.devices (s.cfg.devices * s.cfg.avgN * 4)
            (s.sweepEvents (fun j => j / (4 * s.cfg.avgN) + 1) (fun j => j % 4)
              (s.cfg.devices * s.cfg.avgN * 4)) with
          xout := (List.range s.cfg.devices).map fun p => BitVec.ofInt 16 (s.plateXY p).1
          yout := (List.range s.cfg.devices).map fun p => BitVec.ofInt 16 (s.plateXY p).2
        }.responded .ok 0)

/-- SA_READ_CHANNEL of a valid device and channel responds the reading less its baseline, modulo
2^16, after one selection and one frame, and changes nothing else (43_sensor_array R245). -/
def Obligations.SaReadChannelSubtractsAndWraps : Prop :=
  ∀ (s : State) (dev ch : Nat), s.cfg.wellFormed = true → Corresponds s →
    1 ≤ dev → dev ≤ s.cfg.devices → ch < s.cfg.channels →
    ∃ r : Result,
      (r.toNat : Int) = ((s.readingAt 0).toNat - (s.baseAt (dev - 1) ch).toNat : Int) % 65536 ∧
      exec (.saReadChannel dev ch) s = .next
        ((s.afterReads dev 1 (s.readEvents s.cur.toNat dev ch 0)).responded .ok r)

/-- DIFF in the words of 43_sensor_array R242: the four truncated pair averages in the fixed pairing
(0,1), (1,3), (2,3), (0,2). -/
def Obligations.DifferencerPairsTheChannels : Prop :=
  ∀ v0 v1 v2 v3 b0 b1 b2 b3 : Nat,
    plateDiff [v0, v1, v2, v3] [b0, b1, b2, b3] =
      (((v0 - b0 : Int) + (v1 - b1)).tdiv 2 - ((v2 - b2 : Int) + (v3 - b3)).tdiv 2,
       ((v1 - b1 : Int) + (v3 - b3)).tdiv 2 - ((v0 - b0 : Int) + (v2 - b2)).tdiv 2)

/-- The ranges of 43_sensor_array R246, row by row: a reading, a sample average, a baseline (the mean
itself, which the 12 bits of BASE hold whole), the intermediate values of DIFF, X and Y, which reach
their four bounds and are stored exactly, and the RESULT of an SA_READ_CHANNEL. -/
def Obligations.RangesOfTheSensorArray : Prop :=
  (∀ r2 r3 : Byte, (adcDecode r2 r3).toNat ≤ 4095) ∧
  (∀ (k : Config) (byte : Nat → Byte) (p c : Nat), k.wellFormed = true → p < k.devices →
    c < k.channels →
    calSum k byte p c / k.calN ≤ 4095 ∧
    (((calBase k byte).getD p []).getD c 0).toNat = calSum k byte p c / k.calN) ∧
  (∀ (s : State) (p : Nat), ∀ v ∈ s.plateMeans p, v ≤ 4095) ∧
  (∀ v bp : List Nat, (∀ x ∈ v, x ≤ 4095) → (∀ x ∈ bp, x ≤ 4095) →
    (∀ i, -4095 ≤ corrected v bp i ∧ corrected v bp i ≤ 4095) ∧
    (∀ i j, -8190 ≤ corrected v bp i + corrected v bp j ∧
      corrected v bp i + corrected v bp j ≤ 8190 ∧
      -4095 ≤ pairAverage (corrected v bp) i j ∧ pairAverage (corrected v bp) i j ≤ 4095) ∧
    -8190 ≤ (plateDiff v bp).1 ∧ (plateDiff v bp).1 ≤ 8190 ∧
    -8190 ≤ (plateDiff v bp).2 ∧ (plateDiff v bp).2 ≤ 8190 ∧
    (s16 (plateDiff v bp).1).toInt = (plateDiff v bp).1 ∧
    (s16 (plateDiff v bp).2).toInt = (plateDiff v bp).2) ∧
  (∀ (s t : State) (dev ch : Nat), exec (.saReadChannel dev ch) s = .next t →
    t.rspStatus = .ok →
    t.rspResult.toNat ≤ 0x0FFF ∨ 0xF001 ≤ t.rspResult.toNat ∧ t.rspResult.toNat ≤ 0xFFFF) ∧
  plateDiff [4095, 4095, 0, 0] [0, 0, 4095, 4095] = (8190, 0) ∧
  plateDiff [0, 0, 4095, 4095] [4095, 4095, 0, 0] = (-8190, 0) ∧
  plateDiff [0, 4095, 0, 4095] [4095, 0, 4095, 0] = (0, 8190) ∧
  plateDiff [4095, 0, 4095, 0] [0, 4095, 0, 4095] = (0, -8190)

/-- Baselines are written only by calibration, which runs only in a reset: every other step leaves
them, and a reset pulse replaces them and also resets MODE and the buffers (43_sensor_array R247). -/
def Obligations.BaselinesChangeOnlyAtReset : Prop :=
  (∀ s t : State, step s = .next t → s.pending.head? ≠ some .reset → t.base = s.base) ∧
  (∀ (s : State) (rest : List Move), s.cfg.wellFormed = true → s.pending = .reset :: rest →
    ∃ t, step s = .next t ∧ t.base = calBase s.cfg s.nextByte ∧
      t.mode = List.replicate 8 .single ∧ t.chbuf = List.replicate 8 0 ∧
      t.rawbuf = List.replicate s.cfg.devices (List.replicate s.cfg.channels 0) ∧
      t.xout = List.replicate s.cfg.devices 0 ∧ t.yout = List.replicate s.cfg.devices 0)

/-! ## Buffer space -/

/-- The rows of the buffer map, 20_memory R79. -/
def BufferMapped (s : State) (a : Nat) : Prop :=
  (∃ c, c ≤ 7 ∧ a = 0x0000 + c) ∨ (∃ p, p < s.cfg.devices ∧ a = 0x0100 + p) ∨
    (∃ p, p < s.cfg.devices ∧ a = 0x0200 + p) ∨ (∃ c, c ≤ 7 ∧ a = 0x0300 + c) ∨ a = 0x0400 ∨
    (∃ w, 16 * w < s.cfg.devices ∧ a = 0x0410 + w) ∨
    (∃ p c, p < s.cfg.devices ∧ c < s.cfg.channels ∧ a = 0x1000 + 8 * p + c) ∨
    (∃ p c, p < s.cfg.devices ∧ c < s.cfg.channels ∧ a = 0x2000 + 8 * p + c)

/-- READ_BUF responds the word of every mapped address, row by row of 20_memory R79, zero-extended,
and changes nothing else (44_buffer_access R280). -/
def Obligations.ReadBufReturnsTheMappedWord : Prop :=
  ∀ s : State, s.cfg.wellFormed = true →
    (∀ c, c ≤ 7 → exec (.readBuf (0x0000 + c)) s =
      .next (s.responded .ok ((s.chbuf.getD c 0).zeroExtend 32))) ∧
    (∀ p, p < s.cfg.devices →
      exec (.readBuf (0x0100 + p)) s =
        .next (s.responded .ok ((s.xout.getD p 0).zeroExtend 32)) ∧
      exec (.readBuf (0x0200 + p)) s =
        .next (s.responded .ok ((s.yout.getD p 0).zeroExtend 32))) ∧
    (∀ c, c ≤ 7 → exec (.readBuf (0x0300 + c)) s =
      .next (s.responded .ok (if s.modeAt c = .single then 1 else 0))) ∧
    exec (.readBuf 0x0400) s = .next (s.responded .ok (s.cur.zeroExtend 32)) ∧
    (∀ w, 16 * w < s.cfg.devices → ∃ r : Result,
      exec (.readBuf (0x0410 + w)) s = .next (s.responded .ok r) ∧
      ∀ i, r.getLsbD i =
        (decide (i < 16 ∧ 16 * w + i < s.cfg.devices) && s.sr.getD (16 * w + i) false)) ∧
    (∀ p c, p < s.cfg.devices → c < s.cfg.channels →
      exec (.readBuf (0x1000 + 8 * p + c)) s =
        .next (s.responded .ok (((s.rawbuf.getD p []).getD c 0).zeroExtend 32)) ∧
      exec (.readBuf (0x2000 + 8 * p + c)) s =
        .next (s.responded .ok (((s.base.getD p []).getD c 0).zeroExtend 32)))

/-- READ_BUF of an address outside the map responds (BAD_ADDR, 0) and changes nothing else, and no
other command gives BAD_ADDR (60_exceptions R306). -/
def Obligations.ReadBufRefusesUnmappedAddresses : Prop :=
  (∀ (s : State) (a : Nat), s.cfg.wellFormed = true → ¬ BufferMapped s a →
    exec (.readBuf a) s = .next (s.responded .badAddr 0)) ∧
  (∀ (i : Instr) (s t : State), s.cfg.wellFormed = true → isCommand i = true →
    exec i s = .next t → t.rspStatus = .badAddr → ∃ a, i = .readBuf a ∧ ¬ BufferMapped s a)

/-! ## Whole-machine rules -/

/-- Errors are precise (60_exceptions R309): a command that responds with an error status has changed
only the response registers and has emitted nothing, an illegal word likewise; and what a command does
and responds does not depend on the response before it, so no error is deferred or sticky. -/
def Obligations.ErrorsArePrecise : Prop :=
  (∀ (i : Instr) (s t : State), isCommand i = true → exec i s = .next t → t.rspStatus ≠ .ok →
    t = s.responded t.rspStatus t.rspResult) ∧
  (∀ (s : State) (w : Command), cmdReady s = true → IllegalWord w →
    acceptCommand w s = .next (s.responded .illegalCmd 0)) ∧
  (∀ (i : Instr) (s : State) (st : Status) (r : Result), isCommand i = true →
    exec i { s with rspStatus := st, rspResult := r } = exec i s)

/-- The table of 60_exceptions R301: the codes, who raises each, with which RESULT. -/
def Obligations.StatusTable : Prop :=
  [Status.ok, .channelError, .rangeError, .configFail, .illegalCmd, .badAddr].map statusCode =
    [0, 1, 2, 3, 4, 5] ∧
  (∀ (i : Instr) (s t : State), s.cfg.wellFormed = true → i.wellFormed = true →
    isCommand i = true → exec i s = .next t →
    match t.rspStatus with
    | .ok => True
    | .channelError => t.rspResult = 0x00008000 ∧ ∃ dev ch, s.cfg.channels ≤ ch ∧
        (i = .adcRead dev ch ∨ i = .saReadChannel dev ch)
    | .rangeError => t.rspResult = 0x00008001 ∧ ∃ ch, 8 ≤ ch ∧ i = .getConfig ch
    | .configFail => t.rspResult = 0 ∧ ∃ b ch, 8 ≤ ch ∧ ch ≤ 254 ∧ i = .setConfig b ch
    | .illegalCmd => False
    | .badAddr => t.rspResult = 0 ∧ ∃ a, ¬ BufferMapped s a ∧ i = .readBuf a) ∧
  (∀ (s : State) (w : Command), cmdReady s = true → IllegalWord w →
    acceptCommand w s = .next (s.responded .illegalCmd 0))

/-- Each piece of state has only the writers of 10_state R47: no instruction writes BASE, ACC, the
parameters or the pending moves; MODE changes only by SET_CONFIG, CHBUF only by ADC_READ_ALL, RAWBUF
only by SA_READ_ALL_RAW, the X and Y slots only by SA_READ_ALL, and the chain and CUR only by the
instructions that select. Every instruction ends with its response. -/
def Obligations.StateHasOnlyItsWriters : Prop :=
  ∀ (i : Instr) (s t : State), exec i s = .next t →
    t.cfg = s.cfg ∧ t.base = s.base ∧ t.acc = s.acc ∧ t.pending = s.pending ∧
    ((∀ b ch, i ≠ .setConfig b ch) → t.mode = s.mode) ∧
    ((∀ dev, i ≠ .adcReadAll dev) → t.chbuf = s.chbuf) ∧
    (i ≠ .saReadAllRaw → t.rawbuf = s.rawbuf) ∧
    (i ≠ .saReadAll → t.xout = s.xout ∧ t.yout = s.yout) ∧
    ((∃ ch b, i = .getConfig ch ∨ i = .setConfig b ch) ∨
        (∃ v r, i = .rawToVoltage v r ∨ i = .readBuf r) →
      t.sr = s.sr ∧ t.cur = s.cur) ∧
    t.rspValid = true ∧ t.phase = .ready

/-- What a number of events must satisfy: an outcome that appends events with so many shifts and so
many frames, each frame whole. -/
def Emits (o : Host.Outcome State Fault Refusal) (s : State) (shifts frames : Nat) : Prop :=
  ∃ t es, o = .next t ∧ t.trace = s.trace ++ es ∧ shiftCount es = shifts ∧
    frameCount es = frames ∧ es.length = shifts + 5 * frames ∧ WellBracketed es

/-- `sel(c0, t)` for a valid t (40_selector R145). -/
def selectionShifts (n c0 t : Nat) : Nat := if c0 = 0 ∨ t ≤ c0 then n + t else t - c0

/-- `P(K) = N + D + (K - 1)(N·D + D(D+1)/2)`, with N = D = n (70_reset_and_hazards R352). -/
def sweepShifts (n k : Nat) : Nat := n + n + (k - 1) * (n * n + n * (n + 1) / 2)

/-- The event counts of 70_reset_and_hazards R352, row by row. -/
def Obligations.EventCountsAreExact : Prop :=
  ∀ s : State, s.cfg.wellFormed = true → Corresponds s →
    (∀ t ch, 1 ≤ t → t ≤ s.cfg.devices → ch < s.cfg.channels →
      Emits (exec (.select t) s) s (selectionShifts s.cfg.devices s.cur.toNat t) 0 ∧
      Emits (exec (.adcRead t ch) s) s (selectionShifts s.cfg.devices s.cur.toNat t) 1 ∧
      Emits (exec (.saReadChannel t ch) s) s (selectionShifts s.cfg.devices s.cur.toNat t) 1 ∧
      Emits (exec (.adcReadAll t) s) s
        (selectionShifts s.cfg.devices s.cur.toNat t + (s.cfg.channels - 1) * (s.cfg.devices + t))
        s.cfg.channels) ∧
    (∀ d ch, (d = 0 ∨ s.cfg.devices < d) → ch < s.cfg.channels →
      Emits (exec (.select d) s) s s.cfg.devices 0 ∧
      Emits (exec (.adcRead d ch) s) s s.cfg.devices 0 ∧
      Emits (exec (.saReadChannel d ch) s) s s.cfg.devices 0 ∧
      Emits (exec (.adcReadAll d) s) s (s.cfg.channels * s.cfg.devices) 0) ∧
    (∀ d ch, s.cfg.channels ≤ ch →
      Emits (exec (.adcRead d ch) s) s 0 0 ∧ Emits (exec (.saReadChannel d ch) s) s 0 0) ∧
    Emits (exec .saReadAll s) s (sweepShifts s.cfg.devices (4 * s.cfg.avgN))
      (4 * s.cfg.avgN * s.cfg.devices) ∧
    Emits (exec .saReadAllRaw s) s (sweepShifts s.cfg.devices s.cfg.channels)
      (s.cfg.channels * s.cfg.devices) ∧
    (∀ b x y, Emits (exec (.getConfig x) s) s 0 0 ∧ Emits (exec (.setConfig b x) s) s 0 0 ∧
      Emits (exec (.rawToVoltage x y) s) s 0 0 ∧ Emits (exec (.readBuf x) s) s 0 0) ∧
    (∀ i t, isCommand i = true → exec i s = .next t → t.rspStatus ≠ .ok → t.trace = s.trace) ∧
    Emits (runIllegal s) s 0 0 ∧
    Emits (.next (initSequence s)) s
      (s.cfg.devices + s.cfg.calN * sweepShifts s.cfg.devices s.cfg.channels)
      (s.cfg.channels * s.cfg.calN * s.cfg.devices) ∧
    sweepShifts 1 4 = 8 ∧ sweepShifts 2 4 = 25

/-- The invariant of the states between two commands: every step that goes on keeps it. -/
def Obligations.EveryStepKeepsTheStateGood : Prop :=
  ∀ s t : State, Good s → step s = .next t → Good t

/-- No step from a good state stops but for the one move the spec gives no meaning: a command before
the last response is taken (60_exceptions R300, R313). -/
def Obligations.GoodStatesStopOnlyWithoutAMove : Prop :=
  ∀ s : State, Good s →
    (∃ t, step s = .next t) ∨
    (s.rspValid = true ∧ (∃ w rest, s.pending = .command w :: rest) ∧
      step s = .refused .commandWhileNotReady)

/-! ## Reset -/

/-- The state right after reset is good. Its parameters are the model's choice (log 1). -/
def Obligations.TheResetStateIsGood : Prop := Good State.reset

/-- INIT from any state whose parameters are in range: the state of 10_state R48, the baselines the
floor means of CAL_N readings each, in the read order of 43_sensor_array R241, and the events of
INIT appended (70_reset_and_hazards R341, R342). -/
def Obligations.InitLeavesTheReadyState : Prop :=
  ∀ s : State, s.cfg.wellFormed = true →
    initSequence s =
      { State.ready s.cfg s.nextByte with
        acc := staleAccs s.cfg (s.drawn + 3 * calReads s.cfg)
        trace := s.trace ++ initEvents s.cfg s.nextByte
        rx := s.rx.drop (3 * calReads s.cfg)
        drawn := s.drawn + 3 * calReads s.cfg
        pending := s.pending }

/-- The reset state is INIT run from power-up, with every answer a free value. That `State.reset` is
the state after INIT is the model's reading (log 3), its parameters the model's choice (log 1). -/
def Obligations.TheResetStateIsInitFromPowerUp : Prop :=
  initSequence (State.powerUp Config.shown) = State.reset

/-- A reset pulse is one step from any state to the state after INIT, every field of it; an open bus
bracket is closed first (70_reset_and_hazards R340, R353; log 11). -/
def Obligations.ResetPulseRunsInitFromAnyState : Prop :=
  ∀ (s : State) (rest : List Move), s.cfg.wellFormed = true → s.pending = .reset :: rest →
    step s = .next
      { State.ready s.cfg s.nextByte with
        acc := staleAccs s.cfg (s.drawn + 3 * calReads s.cfg)
        trace := s.trace ++ (if s.busHeld then [.spiEnd] else []) ++ initEvents s.cfg s.nextByte
        rx := s.rx.drop (3 * calReads s.cfg)
        drawn := s.drawn + 3 * calReads s.cfg
        pending := rest }

/-- The reset values of 10_state R48 that the spec gives, in every instance and for every answers of
the SPI port. -/
def Obligations.ResetValuesOfTheSpec : Prop :=
  ∀ (k : Config) (byte : Nat → Byte), k.wellFormed = true →
    (State.ready k byte).cur.toNat = k.devices ∧
    (∀ i, i < k.devices → (State.ready k byte).sr.getD i false = decide (i ≠ k.devices - 1)) ∧
    (∀ c, c < 8 → (State.ready k byte).modeAt c = .single) ∧
    (∀ p c, p < k.devices → c < k.channels →
      ((State.ready k byte).baseAt p c).toNat = calSum k byte p c / k.calN) ∧
    (∀ c, c < 8 → memRead c (State.ready k byte) = some 0) ∧
    (∀ p c, p < k.devices → c < k.channels →
      memRead (0x1000 + 8 * p + c) (State.ready k byte) = some 0 ∧
      memRead (0x0100 + p) (State.ready k byte) = some 0 ∧
      memRead (0x0200 + p) (State.ready k byte) = some 0) ∧
    (State.ready k byte).rspStatus = .ok ∧ (State.ready k byte).rspResult = 0 ∧
    (State.ready k byte).rspValid = false ∧ (State.ready k byte).phase = .ready ∧
    (State.ready k byte).busHeld = false

/-! ## Where the micro-operations run -/

/-- The commands that call a micro-operation of the chain or the bus (40_selector R143, 41_adc_protocol
R174). -/
def selectsOrReads : Instr → Bool
  | .select _ => true
  | .adcRead _ _ => true
  | .adcReadAll _ => true
  | .saReadAll => true
  | .saReadAllRaw => true
  | .saReadChannel _ _ => true
  | _ => false

/-- SR_ADVANCE, SR_SETALL and FRAME run only inside the host commands that call them, and in the reset
sequence: no other step emits an event or touches the chain, CUR or the bus (30_encoding R103). -/
def Obligations.MicroOperationsRunOnlyInsideCommands : Prop :=
  ∀ s t : State, step s = .next t →
    (∃ rest, s.pending = .reset :: rest) ∨
    (∃ w rest i, s.pending = .command w :: rest ∧ decodeHost w = .instr i ∧
      selectsOrReads i = true) ∨
    (t.trace = s.trace ∧ t.sr = s.sr ∧ t.cur = s.cur ∧ t.busHeld = s.busHeld ∧ t.rx = s.rx ∧
      t.drawn = s.drawn ∧ t.frameRet = s.frameRet)

/-- Every word that a step sends in a host command is the word of a channel below C in that channel's
present mode (41_adc_protocol R170, R172; 30_encoding R111). -/
def Obligations.EveryWordSentCarriesTheMode : Prop :=
  ∀ (s t : State) (w : Command) (rest : List Move), s.cfg.wellFormed = true →
    s.pending = .command w :: rest → step s = .next t →
    ∃ es, t.trace = s.trace ++ es ∧
      ∀ before after, es = before ++ .spiBegin :: after →
        ∃ c r1 r2 r3 later, c < s.cfg.channels ∧
          after = .spiXfer (firstByte (adcWord (s.modeAt c).isSingle c)) r1 ::
            .spiXfer (secondByte (adcWord (s.modeAt c).isSingle c)) r2 ::
            .spiXfer 0 r3 :: .spiEnd :: later
end

