-- ==== Sys2Proof/Laws/State.lean ====
section
/-! SUPPORT. One lemma per field for each named update of the state. -/

namespace Sys2Proof.Machine

/-! ## `respond` writes the response registers, the handshake and the phase -/

@[simp] theorem respond_cfg (st : Status) (r : Result) (s : State) : (respond st r s).cfg = s.cfg := rfl
@[simp] theorem respond_sr (st : Status) (r : Result) (s : State) : (respond st r s).sr = s.sr := rfl
@[simp] theorem respond_cur (st : Status) (r : Result) (s : State) : (respond st r s).cur = s.cur := rfl
@[simp] theorem respond_mode (st : Status) (r : Result) (s : State) : (respond st r s).mode = s.mode := rfl
@[simp] theorem respond_base (st : Status) (r : Result) (s : State) : (respond st r s).base = s.base := rfl
@[simp] theorem respond_acc (st : Status) (r : Result) (s : State) : (respond st r s).acc = s.acc := rfl
@[simp] theorem respond_chbuf (st : Status) (r : Result) (s : State) : (respond st r s).chbuf = s.chbuf := rfl
@[simp] theorem respond_rawbuf (st : Status) (r : Result) (s : State) : (respond st r s).rawbuf = s.rawbuf := rfl
@[simp] theorem respond_xout (st : Status) (r : Result) (s : State) : (respond st r s).xout = s.xout := rfl
@[simp] theorem respond_yout (st : Status) (r : Result) (s : State) : (respond st r s).yout = s.yout := rfl
@[simp] theorem respond_rspStatus (st : Status) (r : Result) (s : State) : (respond st r s).rspStatus = st := rfl
@[simp] theorem respond_rspResult (st : Status) (r : Result) (s : State) : (respond st r s).rspResult = r := rfl
@[simp] theorem respond_rspValid (st : Status) (r : Result) (s : State) : (respond st r s).rspValid = true := rfl
@[simp] theorem respond_phase (st : Status) (r : Result) (s : State) : (respond st r s).phase = .ready := rfl
@[simp] theorem respond_busHeld (st : Status) (r : Result) (s : State) : (respond st r s).busHeld = s.busHeld := rfl
@[simp] theorem respond_trace (st : Status) (r : Result) (s : State) : (respond st r s).trace = s.trace := rfl
@[simp] theorem respond_rx (st : Status) (r : Result) (s : State) : (respond st r s).rx = s.rx := rfl
@[simp] theorem respond_drawn (st : Status) (r : Result) (s : State) : (respond st r s).drawn = s.drawn := rfl
@[simp] theorem respond_frameRet (st : Status) (r : Result) (s : State) : (respond st r s).frameRet = s.frameRet := rfl
@[simp] theorem respond_pending (st : Status) (r : Result) (s : State) : (respond st r s).pending = s.pending := rfl

/-! ## `emit` writes the trace -/

@[simp] theorem emit_cfg (e : Event) (s : State) : (emit e s).cfg = s.cfg := rfl
@[simp] theorem emit_sr (e : Event) (s : State) : (emit e s).sr = s.sr := rfl
@[simp] theorem emit_cur (e : Event) (s : State) : (emit e s).cur = s.cur := rfl
@[simp] theorem emit_mode (e : Event) (s : State) : (emit e s).mode = s.mode := rfl
@[simp] theorem emit_base (e : Event) (s : State) : (emit e s).base = s.base := rfl
@[simp] theorem emit_acc (e : Event) (s : State) : (emit e s).acc = s.acc := rfl
@[simp] theorem emit_chbuf (e : Event) (s : State) : (emit e s).chbuf = s.chbuf := rfl
@[simp] theorem emit_rawbuf (e : Event) (s : State) : (emit e s).rawbuf = s.rawbuf := rfl
@[simp] theorem emit_xout (e : Event) (s : State) : (emit e s).xout = s.xout := rfl
@[simp] theorem emit_yout (e : Event) (s : State) : (emit e s).yout = s.yout := rfl
@[simp] theorem emit_rspStatus (e : Event) (s : State) : (emit e s).rspStatus = s.rspStatus := rfl
@[simp] theorem emit_rspResult (e : Event) (s : State) : (emit e s).rspResult = s.rspResult := rfl
@[simp] theorem emit_rspValid (e : Event) (s : State) : (emit e s).rspValid = s.rspValid := rfl
@[simp] theorem emit_phase (e : Event) (s : State) : (emit e s).phase = s.phase := rfl
@[simp] theorem emit_busHeld (e : Event) (s : State) : (emit e s).busHeld = s.busHeld := rfl
@[simp] theorem emit_trace (e : Event) (s : State) : (emit e s).trace = s.trace ++ [e] := rfl
@[simp] theorem emit_rx (e : Event) (s : State) : (emit e s).rx = s.rx := rfl
@[simp] theorem emit_drawn (e : Event) (s : State) : (emit e s).drawn = s.drawn := rfl
@[simp] theorem emit_frameRet (e : Event) (s : State) : (emit e s).frameRet = s.frameRet := rfl
@[simp] theorem emit_pending (e : Event) (s : State) : (emit e s).pending = s.pending := rfl

/-! ## `draw` takes one answer -/

@[simp] theorem draw_cfg (s : State) : ((draw s).2).cfg = s.cfg := rfl
@[simp] theorem draw_sr (s : State) : ((draw s).2).sr = s.sr := rfl
@[simp] theorem draw_cur (s : State) : ((draw s).2).cur = s.cur := rfl
@[simp] theorem draw_mode (s : State) : ((draw s).2).mode = s.mode := rfl
@[simp] theorem draw_base (s : State) : ((draw s).2).base = s.base := rfl
@[simp] theorem draw_acc (s : State) : ((draw s).2).acc = s.acc := rfl
@[simp] theorem draw_chbuf (s : State) : ((draw s).2).chbuf = s.chbuf := rfl
@[simp] theorem draw_rawbuf (s : State) : ((draw s).2).rawbuf = s.rawbuf := rfl
@[simp] theorem draw_xout (s : State) : ((draw s).2).xout = s.xout := rfl
@[simp] theorem draw_yout (s : State) : ((draw s).2).yout = s.yout := rfl
@[simp] theorem draw_rspStatus (s : State) : ((draw s).2).rspStatus = s.rspStatus := rfl
@[simp] theorem draw_rspResult (s : State) : ((draw s).2).rspResult = s.rspResult := rfl
@[simp] theorem draw_rspValid (s : State) : ((draw s).2).rspValid = s.rspValid := rfl
@[simp] theorem draw_phase (s : State) : ((draw s).2).phase = s.phase := rfl
@[simp] theorem draw_busHeld (s : State) : ((draw s).2).busHeld = s.busHeld := rfl
@[simp] theorem draw_trace (s : State) : ((draw s).2).trace = s.trace := rfl
@[simp] theorem draw_rx (s : State) : ((draw s).2).rx = s.rx.drop 1 := rfl
@[simp] theorem draw_drawn (s : State) : ((draw s).2).drawn = s.drawn + 1 := rfl
@[simp] theorem draw_frameRet (s : State) : ((draw s).2).frameRet = s.frameRet := rfl
@[simp] theorem draw_pending (s : State) : ((draw s).2).pending = s.pending := rfl

/-! ## `spiXfer` takes one answer and says its event -/

@[simp] theorem spiXfer_cfg (tx : Byte) (s : State) : ((spiXfer tx s).2).cfg = s.cfg := rfl
@[simp] theorem spiXfer_sr (tx : Byte) (s : State) : ((spiXfer tx s).2).sr = s.sr := rfl
@[simp] theorem spiXfer_cur (tx : Byte) (s : State) : ((spiXfer tx s).2).cur = s.cur := rfl
@[simp] theorem spiXfer_mode (tx : Byte) (s : State) : ((spiXfer tx s).2).mode = s.mode := rfl
@[simp] theorem spiXfer_base (tx : Byte) (s : State) : ((spiXfer tx s).2).base = s.base := rfl
@[simp] theorem spiXfer_acc (tx : Byte) (s : State) : ((spiXfer tx s).2).acc = s.acc := rfl
@[simp] theorem spiXfer_chbuf (tx : Byte) (s : State) : ((spiXfer tx s).2).chbuf = s.chbuf := rfl
@[simp] theorem spiXfer_rawbuf (tx : Byte) (s : State) : ((spiXfer tx s).2).rawbuf = s.rawbuf := rfl
@[simp] theorem spiXfer_xout (tx : Byte) (s : State) : ((spiXfer tx s).2).xout = s.xout := rfl
@[simp] theorem spiXfer_yout (tx : Byte) (s : State) : ((spiXfer tx s).2).yout = s.yout := rfl
@[simp] theorem spiXfer_rspStatus (tx : Byte) (s : State) : ((spiXfer tx s).2).rspStatus = s.rspStatus := rfl
@[simp] theorem spiXfer_rspResult (tx : Byte) (s : State) : ((spiXfer tx s).2).rspResult = s.rspResult := rfl
@[simp] theorem spiXfer_rspValid (tx : Byte) (s : State) : ((spiXfer tx s).2).rspValid = s.rspValid := rfl
@[simp] theorem spiXfer_phase (tx : Byte) (s : State) : ((spiXfer tx s).2).phase = s.phase := rfl
@[simp] theorem spiXfer_busHeld (tx : Byte) (s : State) : ((spiXfer tx s).2).busHeld = s.busHeld := rfl
@[simp] theorem spiXfer_trace (tx : Byte) (s : State) : ((spiXfer tx s).2).trace = s.trace ++ [.spiXfer tx (s.nextByte 0)] := rfl
@[simp] theorem spiXfer_rx (tx : Byte) (s : State) : ((spiXfer tx s).2).rx = s.rx.drop 1 := rfl
@[simp] theorem spiXfer_drawn (tx : Byte) (s : State) : ((spiXfer tx s).2).drawn = s.drawn + 1 := rfl
@[simp] theorem spiXfer_frameRet (tx : Byte) (s : State) : ((spiXfer tx s).2).frameRet = s.frameRet := rfl
@[simp] theorem spiXfer_pending (tx : Byte) (s : State) : ((spiXfer tx s).2).pending = s.pending := rfl

/-! ## `srAdvance` writes the chain and the trace -/

@[simp] theorem srAdvance_cfg (b : Bool) (s : State) : (srAdvance b s).cfg = s.cfg := rfl
@[simp] theorem srAdvance_sr (b : Bool) (s : State) : (srAdvance b s).sr = (b :: s.sr).take s.lines := rfl
@[simp] theorem srAdvance_cur (b : Bool) (s : State) : (srAdvance b s).cur = s.cur := rfl
@[simp] theorem srAdvance_mode (b : Bool) (s : State) : (srAdvance b s).mode = s.mode := rfl
@[simp] theorem srAdvance_base (b : Bool) (s : State) : (srAdvance b s).base = s.base := rfl
@[simp] theorem srAdvance_acc (b : Bool) (s : State) : (srAdvance b s).acc = s.acc := rfl
@[simp] theorem srAdvance_chbuf (b : Bool) (s : State) : (srAdvance b s).chbuf = s.chbuf := rfl
@[simp] theorem srAdvance_rawbuf (b : Bool) (s : State) : (srAdvance b s).rawbuf = s.rawbuf := rfl
@[simp] theorem srAdvance_xout (b : Bool) (s : State) : (srAdvance b s).xout = s.xout := rfl
@[simp] theorem srAdvance_yout (b : Bool) (s : State) : (srAdvance b s).yout = s.yout := rfl
@[simp] theorem srAdvance_rspStatus (b : Bool) (s : State) : (srAdvance b s).rspStatus = s.rspStatus := rfl
@[simp] theorem srAdvance_rspResult (b : Bool) (s : State) : (srAdvance b s).rspResult = s.rspResult := rfl
@[simp] theorem srAdvance_rspValid (b : Bool) (s : State) : (srAdvance b s).rspValid = s.rspValid := rfl
@[simp] theorem srAdvance_phase (b : Bool) (s : State) : (srAdvance b s).phase = s.phase := rfl
@[simp] theorem srAdvance_busHeld (b : Bool) (s : State) : (srAdvance b s).busHeld = s.busHeld := rfl
@[simp] theorem srAdvance_trace (b : Bool) (s : State) : (srAdvance b s).trace = s.trace ++ [.srShift b] := rfl
@[simp] theorem srAdvance_rx (b : Bool) (s : State) : (srAdvance b s).rx = s.rx := rfl
@[simp] theorem srAdvance_drawn (b : Bool) (s : State) : (srAdvance b s).drawn = s.drawn := rfl
@[simp] theorem srAdvance_frameRet (b : Bool) (s : State) : (srAdvance b s).frameRet = s.frameRet := rfl
@[simp] theorem srAdvance_pending (b : Bool) (s : State) : (srAdvance b s).pending = s.pending := rfl

/-! ## `setCur` writes CUR -/

@[simp] theorem setCur_cfg (k : Nat) (s : State) : (setCur k s).cfg = s.cfg := rfl
@[simp] theorem setCur_sr (k : Nat) (s : State) : (setCur k s).sr = s.sr := rfl
@[simp] theorem setCur_cur (k : Nat) (s : State) : (setCur k s).cur = BitVec.ofNat 8 k := rfl
@[simp] theorem setCur_mode (k : Nat) (s : State) : (setCur k s).mode = s.mode := rfl
@[simp] theorem setCur_base (k : Nat) (s : State) : (setCur k s).base = s.base := rfl
@[simp] theorem setCur_acc (k : Nat) (s : State) : (setCur k s).acc = s.acc := rfl
@[simp] theorem setCur_chbuf (k : Nat) (s : State) : (setCur k s).chbuf = s.chbuf := rfl
@[simp] theorem setCur_rawbuf (k : Nat) (s : State) : (setCur k s).rawbuf = s.rawbuf := rfl
@[simp] theorem setCur_xout (k : Nat) (s : State) : (setCur k s).xout = s.xout := rfl
@[simp] theorem setCur_yout (k : Nat) (s : State) : (setCur k s).yout = s.yout := rfl
@[simp] theorem setCur_rspStatus (k : Nat) (s : State) : (setCur k s).rspStatus = s.rspStatus := rfl
@[simp] theorem setCur_rspResult (k : Nat) (s : State) : (setCur k s).rspResult = s.rspResult := rfl
@[simp] theorem setCur_rspValid (k : Nat) (s : State) : (setCur k s).rspValid = s.rspValid := rfl
@[simp] theorem setCur_phase (k : Nat) (s : State) : (setCur k s).phase = s.phase := rfl
@[simp] theorem setCur_busHeld (k : Nat) (s : State) : (setCur k s).busHeld = s.busHeld := rfl
@[simp] theorem setCur_trace (k : Nat) (s : State) : (setCur k s).trace = s.trace := rfl
@[simp] theorem setCur_rx (k : Nat) (s : State) : (setCur k s).rx = s.rx := rfl
@[simp] theorem setCur_drawn (k : Nat) (s : State) : (setCur k s).drawn = s.drawn := rfl
@[simp] theorem setCur_frameRet (k : Nat) (s : State) : (setCur k s).frameRet = s.frameRet := rfl
@[simp] theorem setCur_pending (k : Nat) (s : State) : (setCur k s).pending = s.pending := rfl

/-! ## `spiBegin` takes the bus -/

@[simp] theorem spiBegin_cfg (s : State) : (spiBegin s).cfg = s.cfg := rfl
@[simp] theorem spiBegin_sr (s : State) : (spiBegin s).sr = s.sr := rfl
@[simp] theorem spiBegin_cur (s : State) : (spiBegin s).cur = s.cur := rfl
@[simp] theorem spiBegin_mode (s : State) : (spiBegin s).mode = s.mode := rfl
@[simp] theorem spiBegin_base (s : State) : (spiBegin s).base = s.base := rfl
@[simp] theorem spiBegin_acc (s : State) : (spiBegin s).acc = s.acc := rfl
@[simp] theorem spiBegin_chbuf (s : State) : (spiBegin s).chbuf = s.chbuf := rfl
@[simp] theorem spiBegin_rawbuf (s : State) : (spiBegin s).rawbuf = s.rawbuf := rfl
@[simp] theorem spiBegin_xout (s : State) : (spiBegin s).xout = s.xout := rfl
@[simp] theorem spiBegin_yout (s : State) : (spiBegin s).yout = s.yout := rfl
@[simp] theorem spiBegin_rspStatus (s : State) : (spiBegin s).rspStatus = s.rspStatus := rfl
@[simp] theorem spiBegin_rspResult (s : State) : (spiBegin s).rspResult = s.rspResult := rfl
@[simp] theorem spiBegin_rspValid (s : State) : (spiBegin s).rspValid = s.rspValid := rfl
@[simp] theorem spiBegin_phase (s : State) : (spiBegin s).phase = s.phase := rfl
@[simp] theorem spiBegin_busHeld (s : State) : (spiBegin s).busHeld = true := rfl
@[simp] theorem spiBegin_trace (s : State) : (spiBegin s).trace = s.trace ++ [.spiBegin] := rfl
@[simp] theorem spiBegin_rx (s : State) : (spiBegin s).rx = s.rx := rfl
@[simp] theorem spiBegin_drawn (s : State) : (spiBegin s).drawn = s.drawn := rfl
@[simp] theorem spiBegin_frameRet (s : State) : (spiBegin s).frameRet = s.frameRet := rfl
@[simp] theorem spiBegin_pending (s : State) : (spiBegin s).pending = s.pending := rfl

/-! ## `spiEnd` releases the bus -/

@[simp] theorem spiEnd_cfg (s : State) : (spiEnd s).cfg = s.cfg := rfl
@[simp] theorem spiEnd_sr (s : State) : (spiEnd s).sr = s.sr := rfl
@[simp] theorem spiEnd_cur (s : State) : (spiEnd s).cur = s.cur := rfl
@[simp] theorem spiEnd_mode (s : State) : (spiEnd s).mode = s.mode := rfl
@[simp] theorem spiEnd_base (s : State) : (spiEnd s).base = s.base := rfl
@[simp] theorem spiEnd_acc (s : State) : (spiEnd s).acc = s.acc := rfl
@[simp] theorem spiEnd_chbuf (s : State) : (spiEnd s).chbuf = s.chbuf := rfl
@[simp] theorem spiEnd_rawbuf (s : State) : (spiEnd s).rawbuf = s.rawbuf := rfl
@[simp] theorem spiEnd_xout (s : State) : (spiEnd s).xout = s.xout := rfl
@[simp] theorem spiEnd_yout (s : State) : (spiEnd s).yout = s.yout := rfl
@[simp] theorem spiEnd_rspStatus (s : State) : (spiEnd s).rspStatus = s.rspStatus := rfl
@[simp] theorem spiEnd_rspResult (s : State) : (spiEnd s).rspResult = s.rspResult := rfl
@[simp] theorem spiEnd_rspValid (s : State) : (spiEnd s).rspValid = s.rspValid := rfl
@[simp] theorem spiEnd_phase (s : State) : (spiEnd s).phase = s.phase := rfl
@[simp] theorem spiEnd_busHeld (s : State) : (spiEnd s).busHeld = false := rfl
@[simp] theorem spiEnd_trace (s : State) : (spiEnd s).trace = s.trace ++ [.spiEnd] := rfl
@[simp] theorem spiEnd_rx (s : State) : (spiEnd s).rx = s.rx := rfl
@[simp] theorem spiEnd_drawn (s : State) : (spiEnd s).drawn = s.drawn := rfl
@[simp] theorem spiEnd_frameRet (s : State) : (spiEnd s).frameRet = s.frameRet := rfl
@[simp] theorem spiEnd_pending (s : State) : (spiEnd s).pending = s.pending := rfl

/-! ## `setMode` writes one entry of the mode table -/

@[simp] theorem setMode_cfg (c : Nat) (b : Mode) (s : State) : (setMode c b s).cfg = s.cfg := rfl
@[simp] theorem setMode_sr (c : Nat) (b : Mode) (s : State) : (setMode c b s).sr = s.sr := rfl
@[simp] theorem setMode_cur (c : Nat) (b : Mode) (s : State) : (setMode c b s).cur = s.cur := rfl
@[simp] theorem setMode_mode (c : Nat) (b : Mode) (s : State) : (setMode c b s).mode = s.mode.set c b := rfl
@[simp] theorem setMode_base (c : Nat) (b : Mode) (s : State) : (setMode c b s).base = s.base := rfl
@[simp] theorem setMode_acc (c : Nat) (b : Mode) (s : State) : (setMode c b s).acc = s.acc := rfl
@[simp] theorem setMode_chbuf (c : Nat) (b : Mode) (s : State) : (setMode c b s).chbuf = s.chbuf := rfl
@[simp] theorem setMode_rawbuf (c : Nat) (b : Mode) (s : State) : (setMode c b s).rawbuf = s.rawbuf := rfl
@[simp] theorem setMode_xout (c : Nat) (b : Mode) (s : State) : (setMode c b s).xout = s.xout := rfl
@[simp] theorem setMode_yout (c : Nat) (b : Mode) (s : State) : (setMode c b s).yout = s.yout := rfl
@[simp] theorem setMode_rspStatus (c : Nat) (b : Mode) (s : State) : (setMode c b s).rspStatus = s.rspStatus := rfl
@[simp] theorem setMode_rspResult (c : Nat) (b : Mode) (s : State) : (setMode c b s).rspResult = s.rspResult := rfl
@[simp] theorem setMode_rspValid (c : Nat) (b : Mode) (s : State) : (setMode c b s).rspValid = s.rspValid := rfl
@[simp] theorem setMode_phase (c : Nat) (b : Mode) (s : State) : (setMode c b s).phase = s.phase := rfl
@[simp] theorem setMode_busHeld (c : Nat) (b : Mode) (s : State) : (setMode c b s).busHeld = s.busHeld := rfl
@[simp] theorem setMode_trace (c : Nat) (b : Mode) (s : State) : (setMode c b s).trace = s.trace := rfl
@[simp] theorem setMode_rx (c : Nat) (b : Mode) (s : State) : (setMode c b s).rx = s.rx := rfl
@[simp] theorem setMode_drawn (c : Nat) (b : Mode) (s : State) : (setMode c b s).drawn = s.drawn := rfl
@[simp] theorem setMode_frameRet (c : Nat) (b : Mode) (s : State) : (setMode c b s).frameRet = s.frameRet := rfl
@[simp] theorem setMode_pending (c : Nat) (b : Mode) (s : State) : (setMode c b s).pending = s.pending := rfl

end Sys2Proof.Machine
end

