-- ==== Sys2Proof/Laws/Buffers.lean ====
section
/-! SUPPORT. The buffer space is a view: what a read of it depends on, and which updates it does not
see (spec 20_memory R79, R87). -/

namespace Sys2Proof.Machine

/-- A word of the buffer space depends on the viewed state and the sizes only (20_memory R79). -/
theorem memRead_congr (a : Nat) (s t : State) (hk : t.cfg = s.cfg) (h1 : t.chbuf = s.chbuf)
    (h2 : t.xout = s.xout) (h3 : t.yout = s.yout) (h4 : t.mode = s.mode) (h5 : t.cur = s.cur)
    (h6 : t.sr = s.sr) (h7 : t.rawbuf = s.rawbuf) (h8 : t.base = s.base) :
    memRead a t = memRead a s := by
  cases s
  cases t
  simp only at hk h1 h2 h3 h4 h5 h6 h7 h8
  subst hk h1 h2 h3 h4 h5 h6 h7 h8
  rfl

/-- A response is not seen in the buffer space. -/
@[simp] theorem memRead_respond (a : Nat) (st : Status) (r : Result) (s : State) :
    memRead a (respond st r s) = memRead a s := by
  apply memRead_congr <;> rfl

/-- An event is not seen in the buffer space. -/
@[simp] theorem memRead_emit (a : Nat) (e : Event) (s : State) : memRead a (emit e s) = memRead a s := by
  apply memRead_congr <;> rfl

/-- A draw is not seen in the buffer space. -/
@[simp] theorem memRead_draw (a : Nat) (s : State) : memRead a (draw s).2 = memRead a s := by
  apply memRead_congr <;> rfl

/-- READ_BUF answers a next state that differs from the state in the response alone. -/
theorem execReadBuf_next (a : Nat) (s : State) :
    ∃ st r, execReadBuf a s = .next (respond st r s) := by
  unfold execReadBuf
  split
  · exact ⟨_, _, rfl⟩
  · exact ⟨_, _, rfl⟩

end Sys2Proof.Machine
end

