-- ==== Sys2Proof/Laws/Encoding.lean ====
section
/-! SUPPORT. What a field of an assembled word is, and what a mask leaves of it (spec 30_encoding
R101, R104, R108). -/

namespace Sys2Proof

/-- A field outside a mask leaves nothing under it. -/
theorem place_and_zero (width n lo v : Nat) (m : BitVec width) (h : m.extractLsb' lo n = 0) :
    place width n lo v &&& m = 0 := by
  apply BitVec.eq_of_getLsbD_eq
  intro i hi
  have hb : ∀ j, j < n → m.getLsbD (lo + j) = false := fun j hj => by
    have := congrArg (fun v => BitVec.getLsbD v j) h
    simpa [BitVec.getLsbD_extractLsb', hj] using this
  simp only [place, BitVec.getLsbD_and, BitVec.getLsbD_shiftLeft, BitVec.truncate_eq_setWidth,
    BitVec.getLsbD_setWidth, BitVec.getLsbD_ofNat, BitVec.ofNat_eq_ofNat]
  by_cases h3 : lo ≤ i ∧ i - lo < n
  · have := hb (i - lo) h3.2
    rw [show lo + (i - lo) = i by omega] at this
    simp [this]
  · by_cases h4 : i < lo
    · simp [h4]
    · simp [show ¬ (i - lo < n) by omega]

/-- Reading the bits of a placed field gives the field. -/
theorem place_extract_same (width n lo v : Nat) (h : lo + n ≤ width) :
    (place width n lo v).extractLsb' lo n = BitVec.ofNat n v := by
  apply BitVec.eq_of_getLsbD_eq
  intro i hi
  simp [place, hi, show lo + i < width by omega]

/-- Reading other bits than a placed field's gives zero. -/
theorem place_extract_other (width n lo v n' lo' : Nat) (h : lo' + n' ≤ lo ∨ lo + n ≤ lo') :
    (place width n lo v).extractLsb' lo' n' = 0 := by
  apply BitVec.eq_of_getLsbD_eq
  intro i hi
  simp only [place, BitVec.getLsbD_extractLsb', BitVec.getLsbD_shiftLeft,
    BitVec.truncate_eq_setWidth, BitVec.getLsbD_setWidth, BitVec.getLsbD_ofNat,
    BitVec.ofNat_eq_ofNat]
  by_cases h1 : lo' + i < lo
  · simp [h1]
  · have : ¬ lo' + i - lo < n := by omega
    simp [this]

theorem devField_hostWord (op dev chan vref raw : Nat) (b : Bool) :
    devField (hostWord op dev chan b vref raw) = dev % 256 := by
  simp [devField, hostWord, BitVec.extractLsb'_or, place_extract_same, place_extract_other]

theorem chanField_hostWord (op dev chan vref raw : Nat) (b : Bool) :
    chanField (hostWord op dev chan b vref raw) = chan % 256 := by
  simp [chanField, hostWord, BitVec.extractLsb'_or, place_extract_same, place_extract_other]

theorem vrefField_hostWord (op dev chan vref raw : Nat) (b : Bool) :
    vrefField (hostWord op dev chan b vref raw) = vref % 65536 := by
  simp [vrefField, hostWord, BitVec.extractLsb'_or, place_extract_same, place_extract_other]

theorem rawField_hostWord (op dev chan vref raw : Nat) (b : Bool) :
    rawField (hostWord op dev chan b vref raw) = raw % 65536 := by
  simp [rawField, hostWord, BitVec.extractLsb'_or, place_extract_same, place_extract_other]

theorem opField_hostWord (op dev chan vref raw : Nat) (b : Bool) :
    opField (hostWord op dev chan b vref raw) = op % 16 := by
  simp [opField, hostWord, BitVec.extractLsb'_or, place_extract_same, place_extract_other]

theorem portField_adcWord (sgl : Bool) (ch : Nat) : portField (adcWord sgl ch) = ch % 8 := by
  have h : (0x0400 : Half).extractLsb' 6 3 = 0 := by decide
  simp only [portField, adcWord, BitVec.extractLsb'_or, h]
  rw [place_extract_same _ _ _ _ (by omega), place_extract_other _ _ _ _ _ _ (by omega)]
  simp

end Sys2Proof
end

