-- ==== Sys2Proof/Laws/PerInstr.lean ====
section
/-! SUPPORT. Statements about every instruction, one lemma per constructor: the word of each
instruction meets the mask and match of its own row of spec/opcode_table.json (spec 30_encoding
R104, R108), whatever its operands. -/

namespace Sys2Proof.Laws.MatchesItsRow

/-- Under `mask` the word of the instruction is `bits`. -/
def UnderMask (mask bits : Nat) (i : Instr) : Prop :=
  match encode i with
  | .host64 w => w &&& BitVec.ofNat 64 mask = BitVec.ofNat 64 bits
  | .adc16 w => w &&& BitVec.ofNat 16 mask = BitVec.ofNat 16 bits

/-- The instruction's word meets its row of the opcode table. -/
def Statement : Instr → Prop
  | .select dev => UnderMask 0xF00FFFFFFFFFFFFF 0x1000000000000000 (.select dev)
  | .adcRead dev ch => UnderMask 0xF0000FFFFFFFFFFF 0x2000000000000000 (.adcRead dev ch)
  | .adcReadAll dev => UnderMask 0xF00FFFFFFFFFFFFF 0x3000000000000000 (.adcReadAll dev)
  | .getConfig ch => UnderMask 0xFFF00FFFFFFFFFFF 0x4000000000000000 (.getConfig ch)
  | .setConfig mode ch => UnderMask 0xFFF007FFFFFFFFFF 0x5000000000000000 (.setConfig mode ch)
  | .rawToVoltage vref raw =>
    UnderMask 0xFFFFFFFF00000000 0x6000000000000000 (.rawToVoltage vref raw)
  | .saReadAll => UnderMask 0xFFFFFFFFFFFFFFFF 0x7000000000000000 .saReadAll
  | .saReadAllRaw => UnderMask 0xFFFFFFFFFFFFFFFF 0x8000000000000000 .saReadAllRaw
  | .saReadChannel dev ch =>
    UnderMask 0xF0000FFFFFFFFFFF 0x9000000000000000 (.saReadChannel dev ch)
  | .readBuf addr => UnderMask 0xFFFFFFFFFFFF0000 0xA000000000000000 (.readBuf addr)
  | .adcCmdSingle ch => UnderMask 0xFE3F 0x0600 (.adcCmdSingle ch)
  | .adcCmdDiff ch => UnderMask 0xFE3F 0x0400 (.adcCmdDiff ch)

theorem select (dev : Nat) : Statement (.select dev) := by
  simp only [Statement, UnderMask, encode, hostWord, BitVec.and_or_distrib_right,
    place_and_zero 64 8 52 dev 0xF00FFFFFFFFFFFFF#64 (by decide)]
  decide

theorem adcRead (dev ch : Nat) : Statement (.adcRead dev ch) := by
  simp only [Statement, UnderMask, encode, hostWord, BitVec.and_or_distrib_right,
    place_and_zero 64 8 52 dev 0xF0000FFFFFFFFFFF#64 (by decide),
    place_and_zero 64 8 44 ch 0xF0000FFFFFFFFFFF#64 (by decide)]
  decide

theorem adcReadAll (dev : Nat) : Statement (.adcReadAll dev) := by
  simp only [Statement, UnderMask, encode, hostWord, BitVec.and_or_distrib_right,
    place_and_zero 64 8 52 dev 0xF00FFFFFFFFFFFFF#64 (by decide)]
  decide

theorem getConfig (ch : Nat) : Statement (.getConfig ch) := by
  simp only [Statement, UnderMask, encode, hostWord, BitVec.and_or_distrib_right,
    place_and_zero 64 8 44 ch 0xFFF00FFFFFFFFFFF#64 (by decide)]
  decide

theorem setConfig (mode : Mode) (ch : Nat) : Statement (.setConfig mode ch) := by
  simp only [Statement, UnderMask, encode, hostWord, BitVec.and_or_distrib_right,
    place_and_zero 64 8 44 ch 0xFFF007FFFFFFFFFF#64 (by decide),
    place_and_zero 64 1 43 mode.isSingle.toNat 0xFFF007FFFFFFFFFF#64 (by decide)]
  decide

theorem rawToVoltage (vref raw : Nat) : Statement (.rawToVoltage vref raw) := by
  simp only [Statement, UnderMask, encode, hostWord, BitVec.and_or_distrib_right,
    place_and_zero 64 16 16 vref 0xFFFFFFFF00000000#64 (by decide),
    place_and_zero 64 16 0 raw 0xFFFFFFFF00000000#64 (by decide)]
  decide

theorem saReadAll : Statement .saReadAll := rfl

theorem saReadAllRaw : Statement .saReadAllRaw := rfl

theorem saReadChannel (dev ch : Nat) : Statement (.saReadChannel dev ch) := by
  simp only [Statement, UnderMask, encode, hostWord, BitVec.and_or_distrib_right,
    place_and_zero 64 8 52 dev 0xF0000FFFFFFFFFFF#64 (by decide),
    place_and_zero 64 8 44 ch 0xF0000FFFFFFFFFFF#64 (by decide)]
  decide

theorem readBuf (addr : Nat) : Statement (.readBuf addr) := by
  simp only [Statement, UnderMask, encode, hostWord, BitVec.and_or_distrib_right,
    place_and_zero 64 16 0 addr 0xFFFFFFFFFFFF0000#64 (by decide)]
  decide

theorem adcCmdSingle (ch : Nat) : Statement (.adcCmdSingle ch) := by
  simp only [Statement, UnderMask, encode, adcWord, BitVec.and_or_distrib_right,
    place_and_zero 16 3 6 ch 0xFE3F#16 (by decide)]
  decide

theorem adcCmdDiff (ch : Nat) : Statement (.adcCmdDiff ch) := by
  simp only [Statement, UnderMask, encode, adcWord, BitVec.and_or_distrib_right,
    place_and_zero 16 3 6 ch 0xFE3F#16 (by decide)]
  decide

end Sys2Proof.Laws.MatchesItsRow
end

