-- ==== Sys2Proof/Laws/Selector.lean ====
section
/-! SUPPORT. What the shared loops and the chain's micro-operations do, in closed form (spec
40_selector R140 to R143). -/

namespace Sys2Proof.Machine

/-! ## Loops -/

@[simp] theorem repeatTimes_zero {σ : Type} (f : σ → σ) (x : σ) : repeatTimes 0 f x = x := rfl

@[simp] theorem repeatTimes_succ {σ : Type} (n : Nat) (f : σ → σ) (x : σ) :
    repeatTimes (n + 1) f x = f (repeatTimes n f x) := rfl

@[simp] theorem forUpTo_zero {σ : Type} (f : Nat → σ → σ) (x : σ) : forUpTo 0 f x = x := rfl

@[simp] theorem forUpTo_succ {σ : Type} (n : Nat) (f : Nat → σ → σ) (x : σ) :
    forUpTo (n + 1) f x = f n (forUpTo n f x) := rfl

/-- A property that every pass of a `repeat` keeps holds after it. -/
theorem repeatTimes_keeps {σ : Type} (P : σ → Prop) (f : σ → σ) (hf : ∀ x, P x → P (f x)) (n : Nat)
    (x : σ) (hx : P x) : P (repeatTimes n f x) := by
  induction n with
  | zero => exact hx
  | succ n ih => exact hf _ ih

/-- A property that every pass of a `for` keeps, pass by pass, holds after it. -/
theorem forUpTo_keeps {σ : Type} (P : Nat → σ → Prop) (f : Nat → σ → σ) (n : Nat)
    (hf : ∀ i x, i < n → P i x → P (i + 1) (f i x)) (x : σ) (hx : P 0 x) : P n (forUpTo n f x) := by
  induction n with
  | zero => exact hx
  | succ n ih => exact hf n _ (Nat.lt_succ_self n) (ih fun i x hi => hf i x (Nat.lt_succ_of_lt hi))

/-! ## The chain -/

@[simp] theorem chainSelecting_length (n t : Nat) : (chainSelecting n t).length = n := by
  simp [chainSelecting]

theorem chainSelecting_getElem (n t i : Nat) (h : i < (chainSelecting n t).length) :
    (chainSelecting n t)[i] = decide (i + 1 ≠ t) := by
  simp [chainSelecting]

/-- Nothing selected is every line deselected (10_state R34). -/
theorem chainSelecting_zero (n : Nat) : chainSelecting n 0 = List.replicate n true := by
  apply List.ext_getElem <;> simp [chainSelecting]

/-- A deselect bit moves the selected line one outward (40_selector R146). -/
theorem chainSelecting_advance (n t : Nat) (h : 1 ≤ t) :
    (true :: chainSelecting n t).take n = chainSelecting n (t + 1) := by
  apply List.ext_getElem
  · simp
  · intro i h1 h2
    simp only [List.getElem_take, chainSelecting_getElem]
    cases i with
    | zero => simp; omega
    | succ i => simp [chainSelecting_getElem]

/-- An active bit after a full deselect selects line 1 (40_selector R143). -/
theorem chainSelecting_one (n : Nat) :
    (false :: List.replicate n true).take n = chainSelecting n 1 := by
  apply List.ext_getElem
  · simp
  · intro i h1 h2
    simp only [List.getElem_take, chainSelecting_getElem]
    cases i with
    | zero => simp
    | succ i => simp

/-- After m advances of one bit, the first m stages hold it (40_selector R140). -/
theorem repeat_srAdvance (b : Bool) (m : Nat) (s : State) :
    repeatTimes m (srAdvance b) s =
      { s with
        sr := if m = 0 then s.sr else (List.replicate m b ++ s.sr).take s.lines
        trace := s.trace ++ List.replicate m (.srShift b) } := by
  induction m with
  | zero => simp
  | succ m ih =>
    rw [repeatTimes_succ, ih]
    simp only [srAdvance, emit, State.lines]
    congr 1
    · by_cases hm : m = 0
      · simp [hm]
      · cases hn : s.cfg.devices with
        | zero => simp [hm]
        | succ n => simp [hm, List.replicate_succ, List.take_take]
    · simp [List.replicate_succ', List.append_assoc]

/-- `SR_SETALL(b)`: every stage holds b, whatever the chain held before, after exactly N shifts
(40_selector R141). -/
theorem srSetAll_eq (b : Bool) (s : State) :
    srSetAll b s =
      { s with
        sr := if s.lines = 0 then s.sr else List.replicate s.lines b
        trace := s.trace ++ List.replicate s.lines (.srShift b) } := by
  simp only [srSetAll, repeat_srAdvance]
  congr 1
  split
  · rfl
  · simp

/-- Deselect advances from line c ≥ 1 (40_selector R146). -/
theorem repeat_advance_selected (m c : Nat) (hc : 1 ≤ c) (s : State)
    (hs : s.sr = chainSelecting s.lines c) :
    repeatTimes m (srAdvance true) s =
      { s with
        sr := chainSelecting s.lines (c + m)
        trace := s.trace ++ List.replicate m (.srShift true) } := by
  induction m with
  | zero => simp [← hs]
  | succ m ih =>
    rw [repeatTimes_succ, ih]
    simp only [srAdvance, emit, State.lines]
    rw [chainSelecting_advance _ _ (by omega)]
    congr 1
    simp [List.replicate_succ', List.append_assoc]

end Sys2Proof.Machine
end

