-- ==== Sys2Proof/Laws/Reads.lean ====
section
/-! SUPPORT. What a selection, a frame and a read do, said once (spec 40_selector R143, R145, R146;
41_adc_protocol R172, R174). -/

namespace Sys2Proof.Machine

theorem validDevice_iff (k : Config) (d : Nat) :
    validDevice k d = true ↔ 1 ≤ d ∧ d ≤ k.devices := by simp [validDevice]

/-- An invalid target deselects everything (40_selector R143). -/
theorem selectCore_invalid (t : Nat) (s : State) (h : validDevice s.cfg t = false)
    (hd : 1 ≤ s.cfg.devices) : selectCore t s = (false, s.afterDeselects 1) := by
  simp [selectCore, h, srSetAll_eq, setCur, State.afterDeselects, show s.cfg.devices ≠ 0 by omega]

/-- The reset path of a selection ends with line 1 selected (40_selector R143). -/
theorem chainReset_eq (s : State) (hd : 1 ≤ s.cfg.devices) :
    setCur 1 (srAdvance false (srSetAll true s)) =
      { s with
        sr := chainSelecting s.cfg.devices 1
        cur := 1
        trace := s.trace ++ (List.replicate s.cfg.devices (.srShift true) ++ [.srShift false]) } := by
  simp only [srSetAll_eq, srAdvance, emit, setCur, State.lines,
    show s.cfg.devices ≠ 0 by omega, if_false, chainSelecting_one, List.append_assoc]
  rfl

/-- A valid target ends selected, alone, after exactly the shifts of 40_selector R145. -/
theorem selectCore_valid (t : Nat) (s : State) (h : validDevice s.cfg t = true)
    (hd : s.cfg.devices ≤ 255) (hs : Corresponds s) :
    selectCore t s = (true,
      { s with
        sr := chainSelecting s.cfg.devices t
        cur := BitVec.ofNat 8 t
        trace := s.trace ++ selectEvents s.cfg.devices s.cur.toNat t }) := by
  obtain ⟨h1, h2⟩ := (validDevice_iff _ _).1 h
  obtain ⟨hc, hsr⟩ := hs
  simp only [selectCore, h, if_true, selectStart]
  by_cases hr : s.cur.toNat = 0 ∨ t ≤ s.cur.toNat
  · rw [if_pos hr, chainReset_eq s (by omega), repeat_advance_selected _ 1 (le_refl 1) _ rfl]
    simp only [setCur, State.lines, selectEvents, selectBits,
      show ¬(t < 1 ∨ s.cfg.devices < t) by omega, if_false, hr, if_true]
    congr 2
    · congr 1
      simp; omega
    · simp
  · rw [if_neg hr, repeat_advance_selected _ s.cur.toNat (by omega) s hsr]
    simp only [setCur, State.lines, selectEvents, selectBits,
      show ¬(t < 1 ∨ s.cfg.devices < t) by omega, if_false, hr]
    congr 2
    · congr 1
      omega
    · simp

@[simp] theorem nextByte_draw (n : Nat) (s : State) : (draw s).2.nextByte n = s.nextByte (n + 1) := by
  cases h : s.rx <;> simp [State.nextByte, draw, h, List.getD, Nat.add_assoc, Nat.add_comm 1 n]

/-- `SPI_XFER(tx)` says its event and takes one answer (00_scope R19). -/
theorem spiXfer_eq (tx : Byte) (s : State) :
    spiXfer tx s = (s.nextByte 0,
      { s with
        trace := s.trace ++ [.spiXfer tx (s.nextByte 0)]
        rx := s.rx.drop 1
        drawn := s.drawn + 1 }) := rfl

theorem spiXfer_fst (tx : Byte) (s : State) : (spiXfer tx s).1 = s.nextByte 0 := rfl

theorem nextByte_spiXfer (tx : Byte) (n : Nat) (s : State) :
    (spiXfer tx s).2.nextByte n = s.nextByte (n + 1) := nextByte_draw n s

theorem nextByte_spiBegin (n : Nat) (s : State) : (spiBegin s).nextByte n = s.nextByte n := rfl

/-- One frame with a given command word: its five events, three answers, the decoded value
(41_adc_protocol R172). -/
theorem exchange_eq (w : Half) (s : State) :
    exchange w s = (s.readingAt 0,
      { s with
        trace := s.trace ++ frameEvents w (s.nextByte 0) (s.nextByte 1) (s.nextByte 2)
        busHeld := false
        rx := s.rx.drop 3
        drawn := s.drawn + 3
        frameRet := s.readingAt 0 }) := by
  simp only [exchange, spiXfer_fst, nextByte_spiXfer, nextByte_spiBegin]
  simp [spiEnd, emit, nextByte_spiXfer, nextByte_spiBegin, frameEvents, State.readingAt, readingOf]

/-- A read of an invalid device: everything deselected, 0, no frame (41_adc_protocol R174). -/
theorem readCore_invalid (d c : Nat) (s : State) (h : validDevice s.cfg d = false)
    (hd : 1 ≤ s.cfg.devices) : readCore d c s = (0, s.afterDeselects 1) := by
  simp [readCore, selectCore_invalid d s h hd]

/-- A read of a valid device: selected, one frame, its reading (41_adc_protocol R174). -/
theorem readCore_valid (d c : Nat) (s : State) (h : validDevice s.cfg d = true)
    (hd : s.cfg.devices ≤ 255) (hs : Corresponds s) :
    readCore d c s =
      (s.readingAt 0, s.afterReads d 1 (s.readEvents s.cur.toNat d c 0)) := by
  simp only [readCore, selectCore_valid d s h hd hs, if_true, frame, exchange_eq]
  simp only [encodeChannel, State.afterReads, State.readEvents, State.readingAt,
    List.append_assoc, Nat.mul_one, Nat.mul_zero, Nat.sub_self]
  rfl

/-- A read of a valid device leaves CUR and the chain in correspondence (40_selector R146). -/
theorem afterReads_corresponds (s : State) (d n : Nat) (es : List Event)
    (h : validDevice s.cfg d = true) (hd : s.cfg.devices ≤ 255) :
    Corresponds (s.afterReads d n es) := by
  obtain ⟨_, h2⟩ := (validDevice_iff _ _).1 h
  have : (BitVec.ofNat 8 d).toNat = d := by simp; omega
  simp [Corresponds, State.afterReads, this, h2]

/-! ## The command ADC_READ and the word it sends -/

/-- A channel that is not configured changes nothing but the response (60_exceptions R303). -/
theorem readCommand_unconfigured (dev ch : Nat) (s : State) (h : s.cfg.channels ≤ ch) :
    readCommand dev ch s = raise .channelError s := by
  simp [readCommand, configuredChannel, Nat.not_lt.2 h]

/-- Of a configured channel it is one READ_CORE and its response (41_adc_protocol R175). -/
theorem readCommand_configured (dev ch : Nat) (s : State) (h : ch < s.cfg.channels) :
    readCommand dev ch s =
      respond .ok (zext32 (readCore dev ch s).1) (readCore dev ch s).2 := by
  simp [readCommand, configuredChannel, h]

/-- A word in the channel's mode is sent by the ADC_READ of the current device (41_adc_protocol
R170). -/
theorem sendWord_same (m : Mode) (ch : Nat) (s : State) (h : s.modeAt ch = m) :
    sendWord m ch s = .next (readCommand s.cur.toNat ch s) := if_pos h

/-- A word in the other mode is not sent (41_adc_protocol R170). -/
theorem sendWord_other (m : Mode) (ch : Nat) (s : State) (h : s.modeAt ch ≠ m) :
    sendWord m ch s = .refused .adcWordNotSent := if_neg h

/-! ## The answers left after some reads -/

theorem nextByte_afterReads (s : State) (d n m : Nat) (es : List Event) :
    (s.afterReads d n es).nextByte m = s.nextByte (3 * n + m) := by
  simp [State.nextByte, State.afterReads, List.getD, Nat.add_assoc]

theorem readingAt_afterReads (s : State) (d n j : Nat) (es : List Event) :
    (s.afterReads d n es).readingAt j = s.readingAt (n + j) := by
  simp only [State.readingAt, readingOf, nextByte_afterReads]
  rw [show 3 * n + (3 * j + 1) = 3 * (n + j) + 1 by omega,
    show 3 * n + (3 * j + 2) = 3 * (n + j) + 2 by omega]

theorem readEvents_afterReads (s : State) (d n c0 d' c j : Nat) (es : List Event) :
    (s.afterReads d n es).readEvents c0 d' c j = s.readEvents c0 d' c (n + j) := by
  simp only [State.readEvents, nextByte_afterReads]
  rw [show 3 * n + (3 * j + 1) = 3 * (n + j) + 1 by omega,
    show 3 * n + (3 * j + 2) = 3 * (n + j) + 2 by omega, show 3 * n + 3 * j = 3 * (n + j) by omega]
  rfl

/-- Two rounds of reads are one round. -/
theorem afterReads_afterReads (s : State) (d d' n m : Nat) (es es' : List Event) (hm : 1 ≤ m) :
    (s.afterReads d n es).afterReads d' m es' = s.afterReads d' (n + m) (es ++ es') := by
  have h : (s.afterReads d n es).readingAt (m - 1) = s.readingAt (n + m - 1) := by
    rw [readingAt_afterReads]
    congr 1
    omega
  simp only [State.afterReads] at h ⊢
  simp only [h, List.append_assoc, List.drop_drop, Nat.mul_add, Nat.add_assoc]

end Sys2Proof.Machine
end

