-- ==== Sys2Proof/Tests/Slice0.lean ====
section
/-! SUPPORT. The model's own tests: words of the spec decode, ill-formed terms are refused, vectors of
spec/95_test_vectors come out, and every statement's hypotheses are met by a concrete case. -/

namespace Sys2Proof.Tests

open Sys2Proof.Machine

/-! ## Helpers -/

/-- A state between two commands: d devices, c channels, AVG_N = a, line `cur` selected, MODE all
SINGLE, every buffer and baseline 0, an empty trace that leaves the chain as it is. -/
def demo (d c a cur : Nat) : State :=
  { cfg := { devices := d, channels := c, calN := 1, avgN := a, spiMode := 0, spiClock := 0 }
    sr := chainSelecting d cur
    cur := BitVec.ofNat 8 cur
    mode := List.replicate 8 .single
    base := List.replicate d (List.replicate c 0)
    acc := List.replicate d (List.replicate c 0)
    chbuf := List.replicate 8 0
    rawbuf := List.replicate d (List.replicate c 0)
    xout := List.replicate d 0
    yout := List.replicate d 0
    rspStatus := .ok
    rspResult := 0
    rspValid := false
    phase := .ready
    busHeld := false
    trace := (chainSelecting d cur).reverse.map .srShift
    rx := []
    drawn := 0
    frameRet := 0
    pending := [] }

/-- The state an outcome goes on to. -/
def nextOf (o : Host.Outcome State Fault Refusal) : State :=
  match o with
  | .next t => t
  | _ => demo 1 4 1 0

/-- Whether an outcome goes on. -/
def goesOn (o : Host.Outcome State Fault Refusal) : Bool :=
  match o with
  | .next _ => true
  | _ => false

theorem eq_next_of_goesOn {o : Host.Outcome State Fault Refusal} (h : goesOn o = true) :
    o = .next (nextOf o) := by
  cases o <;> simp_all [goesOn, nextOf]

/-- One step that runs a 64-bit word with the given answers of the SPI port. -/
def runWord (s : State) (w : Nat) (answers : List Byte) : State :=
  nextOf (step ({ s with rx := answers }.withFetchWord 64 w))

/-- The answers that carry a list of readings, as 95_test_vectors writes them. -/
def answersOf (readings : List Nat) : List Byte :=
  readings.flatMap fun v => [0xFF, BitVec.ofNat 8 (0xE0 + v / 256), BitVec.ofNat 8 v]

/-- The events of a run after the state's own. -/
def newEvents (s t : State) : List Event := t.trace.drop s.trace.length

/-! ## Decoding: words of 95_test_vectors and of the rules' examples -/

theorem test_decode_select : decodeTableWord 64 0x1030000000000000 = some (.select 3) := by decide
theorem test_decode_adcRead : decodeTableWord 64 0x209C800000000000 = some (.adcRead 9 200) := by decide
theorem test_decode_adcReadAll : decodeTableWord 64 0x3030000000000000 = some (.adcReadAll 3) := by decide
theorem test_decode_getConfig : decodeTableWord 64 0x400FF00000000000 = some (.getConfig 255) := by decide
theorem test_decode_setConfig : decodeTableWord 64 0x500FE80000000000 = some (.setConfig .single 254) := by
  decide
theorem test_decode_setConfig_diff :
    decodeTableWord 64 0x5000700000000000 = some (.setConfig .differential 7) := by decide
theorem test_decode_rawToVoltage :
    decodeTableWord 64 0x6000000013880FFF = some (.rawToVoltage 5000 4095) := by decide
theorem test_decode_saReadAll : decodeTableWord 64 0x7000000000000000 = some .saReadAll := by decide
theorem test_decode_saReadAllRaw : decodeTableWord 64 0x8000000000000000 = some .saReadAllRaw := by decide
theorem test_decode_saReadChannel :
    decodeTableWord 64 0x9020100000000000 = some (.saReadChannel 2 1) := by decide
theorem test_decode_readBuf : decodeTableWord 64 0xA00000000000FFFF = some (.readBuf 0xFFFF) := by decide
theorem test_decode_adcCmdSingle : decodeTableWord 16 0x0740 = some (.adcCmdSingle 5) := by decide
theorem test_decode_adcCmdDiff : decodeTableWord 16 0x0540 = some (.adcCmdDiff 5) := by decide

/-- The illegal words of 95_test_vectors L2.11. -/
theorem test_decode_illegal :
    [0x0000000000000000, 0xB000000000000000, 0xF123456789ABCDEF].map decodeHost =
      List.replicate 3 (.rejected .reservedOpcode) ∧
    [0x1001000000000000, 0x2010000000000001, 0x3010080000000000, 0x4100000000000000,
      0x4000080000000000, 0x5000040000000000, 0x6010000000000000, 0x7000000000000001,
      0x8000000100000000, 0x9010000000010000, 0xA000000000010000].map decodeHost =
      List.replicate 11 (.rejected .mustBeZero) := by decide

/-- A 16-bit word with START = 0, or with a bit outside the fields, is no ADC command word. -/
theorem test_decode_not_adc : [0x0200, 0x0601, 0x0E00].map decodeAdc =
    List.replicate 3 (.rejected .notAnAdcWord) := by decide

/-- The row table spells the mnemonics of the opcode map (30_encoding R103). -/
theorem test_row_names : hostRows.map (·.mnemonic) = ["SELECT", "ADC_READ", "ADC_READ_ALL",
    "GET_CONFIG", "SET_CONFIG", "RAW_TO_VOLTAGE", "SA_READ_ALL", "SA_READ_ALL_RAW",
    "SA_READ_CHANNEL", "READ_BUF"] := by decide

/-- The ADC command words of 95_test_vectors L2.2, a few. -/
theorem test_adc_words : adcWord true 1 = 0x0640 ∧ adcWord true 7 = 0x07C0 ∧
    adcWord false 0 = 0x0400 ∧ adcWord false 6 = 0x0580 := by decide

/-! ## Well-formedness: one ill-formed term for each check -/

theorem test_wellFormed_refuses :
    Instr.wellFormed (.select 256) = false ∧ Instr.wellFormed (.adcRead 256 0) = false ∧
    Instr.wellFormed (.adcRead 0 256) = false ∧ Instr.wellFormed (.adcReadAll 256) = false ∧
    Instr.wellFormed (.getConfig 256) = false ∧
    Instr.wellFormed (.setConfig .single 256) = false ∧
    Instr.wellFormed (.rawToVoltage 65536 0) = false ∧
    Instr.wellFormed (.rawToVoltage 0 65536) = false ∧
    Instr.wellFormed (.saReadChannel 256 0) = false ∧
    Instr.wellFormed (.saReadChannel 0 256) = false ∧
    Instr.wellFormed (.readBuf 65536) = false ∧ Instr.wellFormed (.adcCmdSingle 8) = false ∧
    Instr.wellFormed (.adcCmdDiff 8) = false := by decide

theorem test_config_refuses :
    [ { Config.shown with devices := 0 }, { Config.shown with devices := 256 },
      { Config.shown with channels := 3 }, { Config.shown with channels := 9 },
      { Config.shown with calN := 0 }, { Config.shown with calN := 65536 },
      { Config.shown with avgN := 0 }, { Config.shown with avgN := 65536 } ].map Config.wellFormed =
      List.replicate 8 false ∧ Config.shown.wellFormed = true := by decide

/-! ## The assembler (30_encoding R112, R113) -/

theorem test_assemble :
    assembleLine "ADC_READ 2, 1 ; comment" = .word 0x2020100000000000 ∧
    assembleLine "SET_CONFIG DIFF, ALL" = .word 0x500FF00000000000 ∧
    assembleLine "DESELECT" = .word 0x1000000000000000 ∧
    assembleLine ".word64 0xF123456789ABCDEF" = .word 0xF123456789ABCDEF ∧
    assembleLine "SELECT 256" = .refused ∧ assembleLine "; nothing" = .blank := by decide

/-! ## One step each: vectors of 95_test_vectors -/

/-- L2.1: SELECT 2 from line 4, the reset path. -/
theorem test_select_reset_path :
    let t := runWord (demo 4 4 1 4) 0x1020000000000000 []
    t.cur = 2 ∧ t.sr = [true, false, true, true] ∧ t.rspStatus = .ok ∧
      newEvents (demo 4 4 1 4) t =
        [true, true, true, true, false, true].map .srShift := by decide

/-- L2.1: SELECT 4 from line 2, the forward path. -/
theorem test_select_forward_path :
    let t := runWord (demo 4 4 1 2) 0x1040000000000000 []
    t.cur = 4 ∧ t.sr = [true, true, true, false] ∧ newEvents (demo 4 4 1 2) t =
      [.srShift true, .srShift true] := by decide

/-- L2.4: ADC_READ 2, 1 with draws (FF, EA, 5C). -/
theorem test_adcRead :
    let t := runWord (demo 4 4 1 4) 0x2020100000000000 [0xFF, 0xEA, 0x5C]
    t.rspStatus = .ok ∧ t.rspResult = 0x00000A5C ∧ t.cur = 2 ∧
      (newEvents (demo 4 4 1 4) t).drop 6 =
        [.spiBegin, .spiXfer 0x06 0xFF, .spiXfer 0x40 0xEA, .spiXfer 0x00 0x5C, .spiEnd] := by decide

/-- L2.4: ADC_READ 9, 200: the channel check comes first. -/
theorem test_adcRead_channel_first :
    let t := runWord (demo 4 4 1 4) 0x209C800000000000 []
    t.rspStatus = .channelError ∧ t.rspResult = 0x8000 ∧ t.cur = 4 ∧
      newEvents (demo 4 4 1 4) t = [] := by decide

/-- L2.4: ADC_READ_ALL 3 with readings 1000, 2000, 3000, 4000: 28 shifts and 4 frames. -/
theorem test_adcReadAll :
    let t := runWord (demo 4 4 1 4) 0x3030000000000000 (answersOf [1000, 2000, 3000, 4000])
    t.rspResult = 1 ∧ t.chbuf = [1000, 2000, 3000, 4000, 0, 0, 0, 0] ∧ t.cur = 3 ∧
      shiftCount (newEvents (demo 4 4 1 4) t) = 28 ∧
      frameCount (newEvents (demo 4 4 1 4) t) = 4 := by decide

/-- L2.4: ADC_READ_ALL 0: 16 shifts, no frame. -/
theorem test_adcReadAll_invalid :
    let t := runWord (demo 4 4 1 4) 0x3000000000000000 []
    t.rspStatus = .ok ∧ t.rspResult = 1 ∧ t.cur = 0 ∧
      newEvents (demo 4 4 1 4) t = List.replicate 16 (.srShift true) := by decide

/-- L2.5: GET_CONFIG 8. -/
theorem test_getConfig_range :
    (runWord (demo 4 4 1 4) 0x4000800000000000 []).rspStatus = .rangeError ∧
    (runWord (demo 4 4 1 4) 0x4000100000000000 []).rspResult = 1 := by decide

/-- L2.5: SET_CONFIG DIFF, 0 and then SINGLE, 1: channel 0 stays DIFFERENTIAL. -/
theorem test_setConfig_asymmetry :
    let t := runWord (runWord (demo 4 4 1 4) 0x5000000000000000 []) 0x5000180000000000 []
    t.mode.map Mode.isSingle = [false, true, true, true, true, true, true, true] := by decide

/-- L2.5: SET_CONFIG SINGLE, 254. -/
theorem test_setConfig_fails :
    let t := runWord (demo 4 4 1 4) 0x500FE80000000000 []
    t.rspStatus = .configFail ∧ t.rspResult = 0 ∧ t.mode = (demo 4 4 1 4).mode := by decide

/-- L2.6: RAW_TO_VOLTAGE 65535, 65535 and 5000, 4095. -/
theorem test_rawToVoltage :
    (runWord (demo 4 4 1 4) 0x60000000FFFFFFFF []).rspResult = 0xFFFE0001 ∧
    (runWord (demo 4 4 1 4) 0x6000000013880FFF []).rspResult = 0x01386C78 := by decide

/-- P3: SA_READ_ALL with baselines 100 and readings 100, 120, 110, 90. -/
theorem test_saReadAll :
    let s := { demo 1 4 1 1 with base := [[100, 100, 100, 100]] }
    let t := runWord s 0x7000000000000000 (answersOf [100, 120, 110, 90])
    t.xout = [10] ∧ t.yout = [0] ∧ t.rspResult = 0 ∧ shiftCount (newEvents s t) = 8 := by decide

/-- L2.8: averaging with AVG_N = 3. -/
theorem test_saReadAll_averages :
    let t := runWord (demo 1 4 3 1) 0x7000000000000000
      (answersOf [10, 5, 7, 0, 11, 5, 8, 1, 12, 6, 8, 1])
    t.xout = [5] ∧ t.yout = [BitVec.ofInt 16 (-7)] := by decide

/-- 43_sensor_array R244: readings 1..8 in read order, 25 shifts. -/
theorem test_saReadAllRaw :
    let t := runWord (demo 2 4 1 2) 0x8000000000000000 (answersOf [1, 2, 3, 4, 5, 6, 7, 8])
    t.rawbuf = [[1, 2, 3, 4], [5, 6, 7, 8]] ∧ t.cur = 2 ∧
      shiftCount (newEvents (demo 2 4 1 2) t) = 25 := by decide

/-- L2.10: SA_READ_CHANNEL 1, 0 with reading 90 under a baseline of 100 wraps. -/
theorem test_saReadChannel_wraps :
    let s := { demo 2 4 1 2 with base := [[100, 0, 0, 0], [50, 60, 0, 0]] }
    (runWord s 0x9010000000000000 (answersOf [90])).rspResult = 0x0000FFF6 ∧
    (runWord s 0x9010000000000000 (answersOf [4095])).rspResult = 0x00000F9B := by decide

/-- L2.10: SA_READ_CHANNEL 3, 1 with D = 2. -/
theorem test_saReadChannel_invalid :
    let t := runWord (demo 2 4 1 2) 0x9030100000000000 []
    t.rspStatus = .ok ∧ t.rspResult = 0 ∧ t.cur = 0 := by decide

/-- P1 row 10: the chain word with line 3 selected. -/
theorem test_readBuf_chain :
    (runWord (demo 4 4 1 3) 0xA000000000000410 []).rspResult = 0x0000000B := by decide

/-- L2.12: unmapped addresses with D = 2, C = 4. -/
theorem test_readBuf_unmapped :
    [0x0008, 0x0102, 0x0308, 0x0401, 0x0411, 0x100C, 0x1010, 0xFFFF].map
      (fun a => memRead a (demo 2 4 1 2)) = List.replicate 8 none := by decide

/-- The frame of S5, channel 5, SINGLE, sends 07 40 00, in the ADC_READ of device 4. -/
theorem test_adcCmdSingle :
    let s := { demo 4 8 1 4 with rx := [0x00, 0x07, 0xFF] }
    let t := nextOf (step (s.withFetchWord 16 0x0740))
    t.rspResult = 0x07FF ∧ t.cur = 4 ∧ (newEvents s t).drop 8 =
      [.spiBegin, .spiXfer 0x07 0x00, .spiXfer 0x40 0x07, .spiXfer 0x00 0xFF, .spiEnd] := by decide

/-- Channel 3, DIFFERENTIAL, sends 04 C0 00 (P2 row 2). -/
theorem test_adcCmdDiff :
    let s := { demo 2 4 1 2 with rx := [0xFF, 0xE1, 0x23] }
    let t := nextOf (step (s.withFetchWord 16 0x04C0))
    t.rspResult = 0x0123 ∧ t.sr = [true, false] ∧ (newEvents s t).drop 4 =
      [.spiBegin, .spiXfer 0x04 0xFF, .spiXfer 0xC0 0xE1, .spiXfer 0x00 0x23, .spiEnd] := by decide

/-- With no device selected no frame runs (41_adc_protocol R172): the shifts of an invalid selection. -/
theorem test_adcCmd_none_selected :
    let t := nextOf (step ((demo 2 4 1 0).withFetchWord 16 0x0600))
    t.drawn = 0 ∧ newEvents (demo 2 4 1 0) t = [.srShift true, .srShift true] := by decide

/-- L2.7, three rows of the differencer: truncation toward zero, and an extreme. -/
theorem test_plateDiff :
    plateDiff [0, 1, 3, 0] [1, 2, 0, 0] = (-2, -1) ∧
    plateDiff [100, 99, 99, 99] [100, 100, 100, 100] = (1, -1) ∧
    plateDiff [4095, 4095, 0, 0] [0, 0, 4095, 4095] = (8190, 0) := by decide

/-- L2.9: calibration with D = 2 and CAL_N = 2: the floor means, and 52 shifts. -/
theorem test_calibration :
    let s := { demo 2 4 1 1 with
      cfg := { Config.shown with devices := 2, calN := 2 }, trace := [],
      rx := answersOf [100, 200, 0, 4095, 10, 20, 30, 40, 103, 201, 1, 4094, 11, 20, 33, 47] }
    let t := initSequence s
    t.base = [[101, 200, 0, 4094], [10, 20, 31, 43]] ∧ t.cur = 2 ∧ t.sr = [true, false] ∧
      shiftCount t.trace = 52 ∧ frameCount t.trace = 16 := by decide +kernel

/-- INIT with D = 4, C = 4, CAL_N = 1 emits 90 shifts and 16 frames (70_reset_and_hazards R342). -/
theorem test_reset_trace :
    shiftCount State.reset.trace = 90 ∧ frameCount State.reset.trace = 16 ∧
      State.reset.sr = [true, true, true, false] := by decide +kernel

/-- An illegal word responds and does nothing else (P5 row 2). -/
theorem test_illegal_word :
    let t := runWord (demo 4 4 1 3) 0xB000000000000000 []
    t.rspStatus = .illegalCmd ∧ t.rspResult = 0 ∧ t.cur = 3 ∧ newEvents (demo 4 4 1 3) t = [] := by
  decide

/-! ## Witnesses: the hypotheses of every statement are met, each clause at its boundaries

`st` is the state most of them use: D = 4, C = 4, line 4 selected. -/

/-- D = 4, C = 4, AVG_N = 1, line 4 selected. -/
def st : State := demo 4 4 1 4

/-- The state that an instruction leads to. -/
def after (i : Instr) (s : State) : State := nextOf (exec i s)

theorem witness_DecodingInvertsEncoding :
    [Instr.select 255, .adcRead 255 255, .adcReadAll 0, .getConfig 255, .setConfig .single 255,
      .rawToVoltage 65535 65535, .saReadAll, .saReadAllRaw, .saReadChannel 255 255, .readBuf 65535,
      .adcCmdSingle 7, .adcCmdDiff 0].all Instr.wellFormed = true := by decide

theorem witness_EncodingInvertsDecoding :
    decode (.host64 0xA00000000000FFFF) = .instr (.readBuf 0xFFFF) ∧
    decode (.adc16 0x07C0) = .instr (.adcCmdSingle 7) := by decide

theorem witness_ExactlyTheIllegalWordsAreRefused :
    ∃ r ∈ hostRows, (0x1FF0000000000000 : Command) &&& r.mask = r.matchBits :=
  ⟨_, .head _, by decide⟩

theorem witness_IllegalWord :
    IllegalWord 0x0FFFFFFFFFFFFFFF ∧ IllegalWord 0xB000000000000000 ∧
    IllegalWord 0xFFFFFFFFFFFFFFFF ∧ IllegalWord 0x1000000000000001 ∧
    IllegalWord 0xA000000000010000 ∧ ¬ IllegalWord 0x1FF0000000000000 := by
  unfold IllegalWord; decide

theorem witness_AdcCommandWordLayout :
    0 < 8 ∧ 7 < 8 ∧ st.modeAt 7 = .single ∧
    (after (.setConfig .differential 0) st).modeAt 0 ≠ .single := by decide

theorem witness_AssemblingRefusesWhatDoesNotFit :
    (isCommand (.adcRead 255 0) = true ∧ Instr.wellFormed (.adcRead 255 0) = true) ∧
    (isCommand (.adcRead 256 0) = true ∧ Instr.wellFormed (.adcRead 256 0) = false) ∧
    sourceText decimalText (.adcRead 255 0) = "ADC_READ 255, 0".toList ∧
    sourceText hexText (.setConfig .differential 255) = "SET_CONFIG DIFF, 0xff".toList := by decide

theorem witness_StepRunsTheDecodedCommand :
    let s := st.withFetchWord 64 0x1030000000000000
    s.pending = .command 0x1030000000000000 :: [] ∧ s.phase = .ready ∧ s.rspValid = false ∧
      decodeHost 0x1030000000000000 = .instr (.select 3) := by decide

theorem witness_StepRunsTheDecodedFrame :
    let s := st.withFetchWord 64 0x2040300000000000
    decodeAdc 0x06C0 = .instr (.adcCmdSingle 3) ∧
      encode (.adcRead s.cur.toNat 3) = .host64 0x2040300000000000 ∧
      s.pending = .command 0x2040300000000000 :: [] ∧ s.phase = .ready ∧ s.rspValid = false ∧
      s.modeAt 3 = .single ∧ s.mode.length = 8 ∧ decodeAdc 0x0400 = .instr (.adcCmdDiff 0) := by
  decide

theorem witness_IllegalWordOnlyResponds :
    { st with pending := [.command 0xF000000000000000] }.pending =
        .command 0xF000000000000000 :: [] ∧
      st.phase = .ready ∧ st.rspValid = false ∧ IllegalWord 0xF000000000000000 := by
  unfold IllegalWord; decide

theorem witness_NoMoveForACommandBeforeReady :
    let s := { st with pending := [.command 0x1030000000000000] }
    (s.pending = .command 0x1030000000000000 :: [] ∧ { s with rspValid := true }.rspValid = true) ∧
    { s with phase := .init }.phase ≠ .ready := by decide

theorem witness_OneResponsePerCommand : isCommand .saReadAll = true := by decide

theorem witness_SelectSelectsTheDevice :
    st.cfg.wellFormed = true ∧ Corresponds st ∧ (1 ≤ 1 ∧ 1 ≤ st.cfg.devices) ∧
      (1 ≤ 4 ∧ 4 ≤ st.cfg.devices) := by decide

theorem witness_InvalidDeviceIsSilent :
    st.cfg.wellFormed = true ∧ Shaped st ∧ (0 = 0 ∨ st.cfg.devices < 0) ∧
      (5 = 0 ∨ st.cfg.devices < 5) ∧ 3 < st.cfg.channels := by decide

theorem witness_SelectingTwiceIsSelectingOnce :
    let s := demo 4 4 1 0
    s.cfg.wellFormed = true ∧ Corresponds s ∧ 1 ≤ 4 ∧ 4 ≤ s.cfg.devices := by decide

theorem witness_SetAllIgnoresWhatTheChainHeld :
    1 ≤ (demo 1 4 1 0).cfg.devices ∧ 0 ≤ st.cfg.devices ∧ 4 ≤ st.cfg.devices := by decide

theorem witness_PassedLinesAreAssertedInTurn :
    (1 ≤ 4 ∧ 4 ≤ st.lines ∧ st.sr = chainSelecting st.lines 4 ∧ ¬ (4 + 1 ≤ st.lines)) ∧
    (1 ≤ 1 ∧ 1 ≤ (demo 4 4 1 1).lines ∧ (demo 4 4 1 1).sr = chainSelecting 4 1 ∧ 1 + 3 ≤ 4) := by
  decide

theorem witness_AtMostOneLineAssertedThroughout :
    st.cfg.wellFormed = true ∧ Corresponds st ∧
      exec (.select 2) st = .next (after (.select 2) st) := ⟨rfl, by decide, rfl⟩

theorem witness_EveryFrameFollowsAFreshSelect :
    st.cfg.wellFormed = true ∧ Corresponds st ∧
      exec (.adcRead 4 3) st = .next (after (.adcRead 4 3) st) ∧
      .spiBegin ∈ newEvents st (after (.adcRead 4 3) st) :=
  ⟨rfl, by decide, rfl, by decide⟩

theorem witness_CurAndChainAgree :
    st.cfg.wellFormed = true ∧ Corresponds st ∧ exec (.select 0) st = .next (after (.select 0) st) ∧
      (after (.select 0) st).cur.toNat = 0 ∧ 1 ≤ st.cur.toNat ∧ 3 < st.cfg.devices :=
  ⟨rfl, by decide, rfl, by decide⟩

theorem witness_AdcReadReturnsTheReading :
    st.cfg.wellFormed = true ∧ Corresponds st ∧ 1 ≤ 4 ∧ 4 ≤ st.cfg.devices ∧
      3 < st.cfg.channels := by decide

theorem witness_ChannelErrorComesBeforeSelection :
    st.cfg.channels ≤ 4 ∧ exec (.adcRead 1 4) st = .next (after (.adcRead 1 4) st) ∧
      isCommand (.adcRead 1 4) = true ∧
      (after (.adcRead 1 4) st).rspStatus = .channelError := ⟨by decide, rfl, by decide⟩

theorem witness_AdcReadAllFillsTheChannelBuffer :
    st.cfg.wellFormed = true ∧ Shaped st ∧ Corresponds st ∧ 1 ≤ 1 ∧ 4 ≤ st.cfg.devices := by decide

theorem witness_AdcCommandWordsSendTheirFrame :
    (st.cfg.wellFormed = true ∧ Corresponds st ∧ st.cur.toNat ≠ 0 ∧ Corresponds (demo 4 8 1 0) ∧
      (demo 4 8 1 0).cur.toNat = 0 ∧ (demo 4 8 1 0).cfg.wellFormed = true) ∧
    ((7 : Byte).toNat = 6 + 7 / 4 ∧ (0xC0 : Byte).toNat = 7 % 4 * 64 ∧ st.modeAt 7 = .single ∧
      7 < (demo 4 8 1 0).cfg.channels ∧ st.cfg.channels ≤ 7) ∧
    ((4 : Byte).toNat = 4 + 0 / 4 ∧ (0 : Byte).toNat = 0 % 4 * 64 ∧
      (after (.setConfig .differential 0) st).modeAt 0 = .differential ∧ 0 < st.cfg.channels ∧
      st.modeAt 0 ≠ .differential) := by decide

theorem witness_TheBusIsAlwaysReleased :
    exec (.adcRead 4 3) st = .next (after (.adcRead 4 3) st) ∧ st.busHeld = false := ⟨rfl, rfl⟩

/-- Two answers that differ in every bit that a reading does not use. -/
theorem witness_UnusedAnswerBitsDoNotMatter :
    let s := { st with rx := [0xFF, 0xEA, 0x5C] }
    let s' := { s with rx := [0x00, 0x1A, 0x5C] }
    (∀ j, s.readingAt j = s'.readingAt j) ∧
      exec (.adcRead 2 1) s = .next (after (.adcRead 2 1) s) ∧
      exec (.adcRead 2 1) s' = .next (after (.adcRead 2 1) s') := by
  refine ⟨fun j => ?_, rfl, rfl⟩
  cases j with
  | zero => decide
  | succ j =>
    simp [State.readingAt, readingOf, State.nextByte, Nat.mul_add, List.getD]

theorem witness_GetConfigReadsTheTable :
    (7 < 8 ∧ st.modeAt 7 = .single) ∧
    (0 < 8 ∧ (after (.setConfig .differential 1) st).modeAt 0 = .differential) ∧ 8 ≤ 8 := by decide

theorem witness_SetConfigFailsOutOfRange :
    (8 ≤ 8 ∧ 8 ≤ 254) ∧ (8 ≤ 254 ∧ 254 ≤ 254) ∧
    Instr.wellFormed (.setConfig .single 254) = true ∧
    exec (.setConfig .single 254) st = .next (after (.setConfig .single 254) st) ∧
    (after (.setConfig .single 254) st).rspStatus = .configFail :=
  ⟨by decide, by decide, rfl, rfl, by decide⟩

theorem witness_SetConfigAllWritesEveryEntry : st.mode.length = 8 := by decide

theorem witness_DifferentialPairing :
    let s := after (.setConfig .differential 255) st
    let t := after (.setConfig .single 7) s
    (st.mode.length = 8 ∧ 0 < 8 ∧ 7 < 8) ∧ s.mode.length = 8 ∧
      exec (.setConfig .single 7) s = .next t ∧ s.modeAt 7 = s.modeAt (7 ^^^ 1) ∧
      t.modeAt 7 = .single ∧ t.modeAt (7 ^^^ 1) = .differential :=
  ⟨by decide, by decide, rfl, by decide⟩

/-- For RawToVoltageIsTheExactProduct and RawToVoltageProperties. -/
theorem witness_RawToVoltage : (65535 < 65536 ∧ 0 < 65536) ∧
    (4095 ≤ 4095 ∧ 0 < 1 ∧ 1 ≤ 65535 ∧ 4095 ≤ 65535) ∧ (0 = 0 ∨ 0 = 0) := by decide

theorem witness_ModeTakesEffectAtTheNextFrame :
    st.cfg.wellFormed = true ∧ st.mode.length = 8 ∧ Corresponds st ∧ 1 ≤ 4 ∧
      4 ≤ st.cfg.devices ∧ 3 < st.cfg.channels := by decide

/-- For SaReadAllStoresTheDifferences and SaReadAllRawFillsTheRawBuffer: the smallest and a larger
instance. -/
theorem witness_SaReadAll :
    ((demo 1 4 1 0).cfg.wellFormed = true ∧ Shaped (demo 1 4 1 0) ∧ Corresponds (demo 1 4 1 0)) ∧
    ((demo 3 8 2 3).cfg.wellFormed = true ∧ Shaped (demo 3 8 2 3) ∧ Corresponds (demo 3 8 2 3)) := by
  decide

theorem witness_SaReadChannelSubtractsAndWraps :
    st.cfg.wellFormed = true ∧ Corresponds st ∧ 1 ≤ 1 ∧ 4 ≤ st.cfg.devices ∧
      0 < st.cfg.channels ∧ 3 < st.cfg.channels := by decide

theorem witness_RangesOfTheSensorArray :
    (∀ x ∈ [4095, 4095, 0, 0], x ≤ 4095) ∧
      (Config.shown.wellFormed = true ∧ 3 < Config.shown.devices ∧ 3 < Config.shown.channels) ∧
      (st.plateMeans 0).length = 4 ∧
      exec (.saReadChannel 4 3) st = .next (after (.saReadChannel 4 3) st) ∧
      (after (.saReadChannel 4 3) st).rspStatus = .ok :=
  ⟨by decide, by decide, by decide, rfl, by decide⟩

theorem witness_BaselinesChangeOnlyAtReset :
    (step st = .next st ∧ st.pending.head? ≠ some .reset) ∧
    (st.cfg.wellFormed = true ∧ { st with pending := [.reset] }.pending = .reset :: []) :=
  ⟨⟨rfl, by decide⟩, rfl, rfl⟩

theorem witness_BufferMapped :
    BufferMapped (demo 2 4 1 2) 7 ∧ BufferMapped (demo 2 4 1 2) 0x0101 ∧
    BufferMapped (demo 2 4 1 2) 0x0410 ∧ BufferMapped (demo 2 4 1 2) 0x200B ∧
    ¬ BufferMapped (demo 2 4 1 2) 0x0008 ∧ ¬ BufferMapped (demo 2 4 1 2) 0x100C ∧
    ¬ BufferMapped (demo 2 4 1 2) 0x0411 := by
  unfold BufferMapped; simp only [demo]; refine ⟨?_, ?_, ?_, ?_, ?_, ?_, ?_⟩
  · exact .inl ⟨7, by omega⟩
  · exact .inr (.inl ⟨1, by omega⟩)
  · exact .inr (.inr (.inr (.inr (.inr (.inl ⟨0, by omega⟩)))))
  · exact .inr (.inr (.inr (.inr (.inr (.inr (.inr ⟨1, 3, by omega⟩))))))
  all_goals
    rintro (⟨_, _⟩ | ⟨_, _⟩ | ⟨_, _⟩ | ⟨_, _⟩ | _ | ⟨_, _⟩ | ⟨_, _, _⟩ | ⟨_, _, _⟩) <;> omega

theorem witness_ReadBufReturnsTheMappedWord :
    let s := demo 17 8 1 17
    s.cfg.wellFormed = true ∧ 7 ≤ 7 ∧ 16 < s.cfg.devices ∧ s.modeAt 7 = .single ∧
      16 * 1 < s.cfg.devices ∧ 7 < s.cfg.channels := by decide

theorem witness_ReadBufRefusesUnmappedAddresses :
    (demo 2 4 1 2).cfg.wellFormed = true ∧ isCommand (.readBuf 0x0008) = true ∧
      exec (.readBuf 0x0008) (demo 2 4 1 2) = .next (after (.readBuf 0x0008) (demo 2 4 1 2)) ∧
      (after (.readBuf 0x0008) (demo 2 4 1 2)).rspStatus = .badAddr := ⟨rfl, rfl, rfl, by decide⟩

theorem witness_ErrorsArePrecise :
    (isCommand (.getConfig 8) = true ∧ exec (.getConfig 8) st = .next (after (.getConfig 8) st) ∧
      (after (.getConfig 8) st).rspStatus ≠ .ok) ∧ cmdReady st = true :=
  ⟨⟨rfl, rfl, by decide⟩, by decide⟩

/-- Each status of the table comes from some well-formed command. -/
theorem witness_StatusTable :
    exec (.getConfig 8) st = .next (after (.getConfig 8) st) ∧
    [Instr.select 1, .saReadChannel 1 4, .getConfig 8, .setConfig .single 8, .readBuf 0xFFFF].map
      (fun i => (i.wellFormed, isCommand i, (after i st).rspStatus)) =
    [(true, true, .ok), (true, true, .channelError), (true, true, .rangeError),
      (true, true, .configFail), (true, true, .badAddr)] := ⟨rfl, by decide⟩

theorem witness_StateHasOnlyItsWriters :
    exec (.getConfig 0) st = .next (after (.getConfig 0) st) ∧
      exec (.adcCmdSingle 0) st = .next (after (.adcCmdSingle 0) st) :=
  ⟨rfl, rfl⟩

theorem witness_MicroOperationsRunOnlyInsideCommands :
    step (st.withFetchWord 64 0xA000000000000400) =
      .next (nextOf (step (st.withFetchWord 64 0xA000000000000400))) :=
  eq_next_of_goesOn (by decide +kernel)

theorem witness_EveryWordSentCarriesTheMode :
    let s := st.withFetchWord 64 0x2040300000000000
    s.cfg.wellFormed = true ∧ s.pending = .command 0x2040300000000000 :: [] ∧
      step s = .next (nextOf (step s)) ∧ .spiBegin ∈ newEvents s (nextOf (step s)) :=
  ⟨rfl, rfl, eq_next_of_goesOn (by decide +kernel), by decide +kernel⟩

theorem witness_EventCountsAreExact :
    st.cfg.wellFormed = true ∧ Corresponds st ∧ 1 ≤ 4 ∧ 4 ≤ st.cfg.devices ∧ 3 < st.cfg.channels ∧
      st.cfg.devices < 5 ∧ st.cfg.channels ≤ 4 ∧ isCommand (.getConfig 8) = true ∧
      (after (.getConfig 8) st).rspStatus ≠ .ok ∧
      exec (.getConfig 8) st = .next (after (.getConfig 8) st) :=
  ⟨rfl, by decide, by decide, by decide, by decide, by decide, by decide, rfl, by decide, rfl⟩

theorem good_st : Good st := by
  refine ⟨by decide, by decide, by decide, ?_, by decide, rfl, rfl⟩
  simp [InRange, IsReading, IsDifference, st, demo]

theorem witness_EveryStepKeepsTheStateGood :
    Good (st.withFetchWord 64 0x1030000000000000) ∧
      step (st.withFetchWord 64 0x1030000000000000) =
        .next (nextOf (step (st.withFetchWord 64 0x1030000000000000))) :=
  ⟨good_st, eq_next_of_goesOn (by decide +kernel)⟩

/-- Good states of both kinds: one that goes on, and one for the move without a meaning. -/
theorem witness_GoodStatesStopOnlyWithoutAMove :
    Good st ∧ Good { st with rspValid := true, pending := [.command 0x1030000000000000] } :=
  ⟨good_st, good_st⟩

theorem witness_InitLeavesTheReadyState :
    (State.powerUp Config.shown).cfg.wellFormed = true ∧ st.cfg.wellFormed = true := by decide

theorem witness_ResetPulseRunsInitFromAnyState :
    st.cfg.wellFormed = true ∧ { st with pending := [.reset] }.pending = .reset :: [] ∧
      { st with busHeld := true }.busHeld = true ∧ st.busHeld = false := by decide

theorem witness_ResetValuesOfTheSpec :
    Config.shown.wellFormed = true ∧ 3 < Config.shown.devices ∧ 3 < Config.shown.channels := by
  decide

end Sys2Proof.Tests
end

section
/-! PROOFS. The step on a command word: what the ports do with it when `cmd_ready` = 1, and the
statement that the step is the decoded command's meaning (spec 00_scope R21; 30_encoding R105, R114;
60_exceptions R313). -/

namespace Sys2Proof.Machine

/-! ## The ports -/

/-- The level of `cmd_ready`, in the two fields it depends on (30_encoding R114). -/
theorem cmdReady_iff (s : State) : cmdReady s = true ↔ s.phase = .ready ∧ s.rspValid = false := by
  simp [cmdReady]

/-- A command at a ready port is accepted: the phase is BUSY while it runs (30_encoding R114). -/
theorem acceptCommand_of_ready {s : State} (h : cmdReady s = true) (w : Command) :
    acceptCommand w s = runDecoded (decodeHost w) { s with phase := .busy } := if_pos h

theorem step_of_pending {s : State} {m : Move} {rest : List Move} (h : s.pending = m :: rest) :
    step s = serve m { s with pending := rest } := by
  simp only [step, serveNext, h]

/-- The step on a command that is accepted, whether its word decodes or not (30_encoding R105). -/
theorem step_of_accepted_command {s : State} {w : Command} {rest : List Move}
    (hpending : s.pending = .command w :: rest) (hready : cmdReady s = true) :
    step s = runDecoded (decodeHost w) { s with pending := rest, phase := .busy } := by
  rw [step_of_pending hpending]
  exact acceptCommand_of_ready (s := { s with pending := rest }) hready w

/-! ## The host presenting a word -/

/-- A presented command finds the port ready, and running it takes the presented move away again
(log 6). -/
theorem step_presentCommand (w : Command) (s : State) :
    step (presentCommand w s) =
      runDecoded (decodeHost w) { s with phase := .busy, rspValid := false } := by
  have hready : cmdReady (presentCommand w s) = true := (cmdReady_iff _).2 ⟨rfl, rfl⟩
  exact step_of_accepted_command (rest := s.pending) rfl hready

/-- 64 bits placed for the next step are a presented command word (log 15). -/
theorem withFetchWord_host (s : State) (w : Command) :
    s.withFetchWord 64 w.toNat = presentCommand w s := by
  have hword : wordOfBits 64 w.toNat = .host64 w := by simp [wordOfBits]
  simp only [State.withFetchWord, hword, placeWord]

/-! ## The statement -/

/-- Settles O8: both parts are the step on an accepted command, whose word is known to decode. -/
theorem stepRunsTheDecodedCommand : Obligations.StepRunsTheDecodedCommand := by
  unfold Obligations.StepRunsTheDecodedCommand
  constructor
  · intro s w rest i hpending hphase hrsp hdecode
    have hready : cmdReady s = true := (cmdReady_iff s).2 ⟨hphase, hrsp⟩
    rw [step_of_accepted_command hpending hready, hdecode, runDecoded]
  · intro s w i hdecode
    rw [withFetchWord_host, step_presentCommand, hdecode, runDecoded]

end Sys2Proof.Machine
end

section
/-! PROOFS. What a command does before it answers, said once for all twelve instructions, and the
two ways to carry a fact through it: what it leaves at the ports (the chain, CUR, the bus, the
trace) and what it writes in the tables (spec 10_state R34, R47). -/

namespace Sys2Proof.Machine

/-! ## A command is its work, then its response -/

/-- The work of a command for one channel: nothing where the channel is not configured, else one
read (60_exceptions R303). -/
def channelWork (dev ch : Nat) (s : State) : State :=
  if configuredChannel s.cfg ch then (readCore dev ch s).2 else s

/-- The work of SET_CONFIG (42_config R211). -/
def configWork (b : Mode) (ch : Nat) (s : State) : State :=
  if ch = Config.allPorts then forUpTo Config.maxPorts (fun c => setMode c b) s
  else if tablePort ch then setModePaired b ch s
  else s

/-- The sweep of SA_READ_ALL_RAW (43_sensor_array R244). -/
def rawSweep (s : State) : State :=
  forUpTo s.cfg.devices (fun p s => forUpTo s.cfg.channels (readIntoRawbuf p) s) s

/-- What an instruction does to the state before its response. -/
def work : Instr → State → State
  | .select dev, s => (selectCore dev s).2
  | .adcRead dev ch, s => channelWork dev ch s
  | .adcReadAll dev, s => forUpTo s.cfg.channels (readIntoChbuf dev) s
  | .getConfig _, s => s
  | .setConfig b ch, s => configWork b ch s
  | .rawToVoltage _ _, s => s
  | .saReadAll, s => forUpTo s.cfg.devices readPlate s
  | .saReadAllRaw, s => rawSweep s
  | .saReadChannel dev ch, s => channelWork dev ch s
  | .readBuf _, s => s
  | .adcCmdSingle ch, s => channelWork s.cur.toNat ch s
  | .adcCmdDiff ch, s => channelWork s.cur.toNat ch s

theorem readCommand_responds (dev ch : Nat) (s : State) :
    ∃ st r, readCommand dev ch s = respond st r (channelWork dev ch s) := by
  by_cases h : configuredChannel s.cfg ch = true
  · simp only [readCommand, channelWork, h, if_true]
    exact ⟨_, _, rfl⟩
  · simp only [readCommand, channelWork, h]
    exact ⟨_, _, rfl⟩

theorem execSetConfig_responds (b : Mode) (ch : Nat) (s : State) :
    ∃ st r, execSetConfig b ch s = .next (respond st r (configWork b ch s)) := by
  unfold execSetConfig configWork
  split_ifs <;> exact ⟨_, _, rfl⟩

theorem execGetConfig_responds (ch : Nat) (s : State) :
    ∃ st r, execGetConfig ch s = .next (respond st r s) := by
  unfold execGetConfig
  split_ifs <;> exact ⟨_, _, rfl⟩

theorem execSaReadChannel_responds (dev ch : Nat) (s : State) :
    ∃ st r, execSaReadChannel dev ch s = .next (respond st r (channelWork dev ch s)) := by
  unfold execSaReadChannel channelWork
  split_ifs <;> exact ⟨_, _, rfl⟩

/-- A word that is sent is the ADC_READ of the current device. -/
theorem sendWord_responds {m : Mode} {ch : Nat} {s t : State} (h : sendWord m ch s = .next t) :
    ∃ st r, t = respond st r (channelWork s.cur.toNat ch s) := by
  by_cases hm : s.modeAt ch = m
  · obtain ⟨st, r, hread⟩ := readCommand_responds s.cur.toNat ch s
    rw [sendWord_same m ch s hm, hread] at h
    exact ⟨st, r, (Host.Outcome.next.inj h).symm⟩
  · rw [sendWord_other m ch s hm] at h
    cases h

/-- Every instruction that completes has done its work and then responded. -/
theorem exec_responds {i : Instr} {s t : State} (h : exec i s = .next t) :
    ∃ st r, t = respond st r (work i s) := by
  have of_next : ∀ {o : Host.Outcome State Fault Refusal} {u : State},
      o = .next t → (∃ st r, o = .next (respond st r u)) → ∃ st r, t = respond st r u := by
    rintro o u ho ⟨st, r, hr⟩
    exact ⟨st, r, Host.Outcome.next.inj (ho.symm.trans hr)⟩
  cases i with
  | select dev => exact ⟨_, _, (Host.Outcome.next.inj h).symm⟩
  | adcRead dev ch =>
    obtain ⟨st, r, hread⟩ := readCommand_responds dev ch s
    exact ⟨st, r, (Host.Outcome.next.inj h).symm.trans hread⟩
  | adcReadAll dev => exact ⟨_, _, (Host.Outcome.next.inj h).symm⟩
  | getConfig ch => exact of_next h (execGetConfig_responds ch s)
  | setConfig b ch => exact of_next h (execSetConfig_responds b ch s)
  | rawToVoltage vref raw => exact ⟨_, _, (Host.Outcome.next.inj h).symm⟩
  | saReadAll => exact ⟨_, _, (Host.Outcome.next.inj h).symm⟩
  | saReadAllRaw => exact ⟨_, _, (Host.Outcome.next.inj h).symm⟩
  | saReadChannel dev ch => exact of_next h (execSaReadChannel_responds dev ch s)
  | readBuf addr => exact of_next h (execReadBuf_next addr s)
  | adcCmdSingle ch => exact sendWord_responds h
  | adcCmdDiff ch => exact sendWord_responds h

/-! ## Facts about the ports -/

/-- Two states that agree in the parameters, the chain, CUR, the bus, the trace and the answers:
they may differ in tables, response, phase and pending moves. -/
structure SamePorts (s t : State) : Prop where
  cfg : t.cfg = s.cfg := by rfl
  sr : t.sr = s.sr := by rfl
  cur : t.cur = s.cur := by rfl
  busHeld : t.busHeld = s.busHeld := by rfl
  trace : t.trace = s.trace := by rfl
  rx : t.rx = s.rx := by rfl
  drawn : t.drawn = s.drawn := by rfl
  frameRet : t.frameRet = s.frameRet := by rfl

theorem SamePorts.refl (s : State) : SamePorts s s := {}

theorem setMode_samePorts (c : Nat) (b : Mode) {s t : State} (h : SamePorts s t) :
    SamePorts s (setMode c b t) :=
  ⟨h.cfg, h.sr, h.cur, h.busHeld, h.trace, h.rx, h.drawn, h.frameRet⟩

/-- SET_CONFIG is not seen at the ports. -/
theorem configWork_samePorts (b : Mode) (ch : Nat) (s : State) :
    SamePorts s (configWork b ch s) := by
  unfold configWork
  split_ifs
  · exact forUpTo_keeps (fun _ => SamePorts s) _ _ (fun c _ _ => setMode_samePorts c b) s
      (SamePorts.refl s)
  · cases b with
    | differential =>
      exact setMode_samePorts _ _ (setMode_samePorts _ _ (SamePorts.refl s))
    | single => exact setMode_samePorts _ _ (SamePorts.refl s)
  · exact SamePorts.refl s

/-- A property of the ports that selections and frames keep. What the tables hold does not matter to
it. -/
structure PortInvariant (P : State → Prop) : Prop where
  ofSamePorts : ∀ {s t : State}, P s → SamePorts s t → P t
  selectCore : ∀ (d : Nat) (s : State), P s → P (selectCore d s).2
  frame : ∀ (c : Nat) (s : State), P s → P (frame c s).2

section
variable {P : State → Prop}

theorem PortInvariant.readCore (hP : PortInvariant P) (d c : Nat) (s : State) (h : P s) :
    P (readCore d c s).2 := by
  have hsel := hP.selectCore d s h
  simp only [Machine.readCore]
  split
  · exact hP.frame c _ hsel
  · exact hsel

theorem PortInvariant.channelWork (hP : PortInvariant P) (dev ch : Nat) (s : State) (h : P s) :
    P (channelWork dev ch s) := by
  unfold Machine.channelWork
  split
  · exact hP.readCore dev ch s h
  · exact h

theorem PortInvariant.readIntoChbuf (hP : PortInvariant P) (dev c : Nat) (s : State) (h : P s) :
    P (readIntoChbuf dev c s) :=
  hP.ofSamePorts (hP.readCore dev c s h) {}

theorem PortInvariant.readIntoRawbuf (hP : PortInvariant P) (p c : Nat) (s : State) (h : P s) :
    P (readIntoRawbuf p c s) :=
  hP.ofSamePorts (hP.readCore (p + 1) c s h) {}

theorem PortInvariant.samplePlate (hP : PortInvariant P) (p : Nat) (s : State) (h : P s) :
    P (samplePlate p s).2 :=
  repeatTimes_keeps (fun x : List Nat × State => P x.2) _
    (fun x hx => forUpTo_keeps (fun _ x => P x.2) _ _
      (fun c x _ hx => hP.readCore (p + 1) c x.2 hx) x hx) _ _ h

theorem PortInvariant.readPlate (hP : PortInvariant P) (p : Nat) (s : State) (h : P s) :
    P (readPlate p s) :=
  hP.ofSamePorts (hP.samplePlate p s h) {}

theorem PortInvariant.rawSweep (hP : PortInvariant P) (s : State) (h : P s) : P (rawSweep s) :=
  forUpTo_keeps (fun _ => P) _ _
    (fun p t _ ht => forUpTo_keeps (fun _ => P) _ _ (fun c u _ => hP.readIntoRawbuf p c u) t ht) s h

theorem PortInvariant.work (hP : PortInvariant P) (i : Instr) (s : State) (h : P s) :
    P (work i s) := by
  cases i with
  | select dev => exact hP.selectCore dev s h
  | adcRead dev ch => exact hP.channelWork dev ch s h
  | adcReadAll dev =>
    exact forUpTo_keeps (fun _ => P) _ _ (fun c t _ => hP.readIntoChbuf dev c t) s h
  | getConfig ch => exact h
  | setConfig b ch => exact hP.ofSamePorts h (configWork_samePorts b ch s)
  | rawToVoltage vref raw => exact h
  | saReadAll => exact forUpTo_keeps (fun _ => P) _ _ (fun p t _ => hP.readPlate p t) s h
  | saReadAllRaw => exact hP.rawSweep s h
  | saReadChannel dev ch => exact hP.channelWork dev ch s h
  | readBuf addr => exact h
  | adcCmdSingle ch => exact hP.channelWork s.cur.toNat ch s h
  | adcCmdDiff ch => exact hP.channelWork s.cur.toNat ch s h

/-- Every instruction keeps a property of the ports. -/
theorem PortInvariant.exec (hP : PortInvariant P) {i : Instr} {s t : State} (h : P s)
    (hexec : exec i s = .next t) : P t := by
  obtain ⟨st, r, rfl⟩ := exec_responds hexec
  exact hP.ofSamePorts (hP.work i s h) {}

theorem PortInvariant.accumulate (hP : PortInvariant P) (p c : Nat) (s : State) (h : P s) :
    P (accumulate p c s) :=
  hP.ofSamePorts (hP.readCore (p + 1) c s h) {}

/-- A calibration keeps a property of the ports. -/
theorem PortInvariant.calibrate (hP : PortInvariant P) (s : State) (h : P s) : P (calibrate s) := by
  have samplePass_keeps : ∀ t, P t → P (samplePass t) := fun t ht =>
    forUpTo_keeps (fun _ => P) _ _
      (fun p u _ hu => forUpTo_keeps (fun _ => P) _ _ (fun c v _ => hP.accumulate p c v) u hu) t ht
  have hcleared :
      P { s with acc := List.replicate s.cfg.devices (List.replicate s.cfg.channels 0) } :=
    hP.ofSamePorts h {}
  exact hP.ofSamePorts (repeatTimes_keeps P _ samplePass_keeps s.cfg.calN _ hcleared) {}

/-- INIT keeps a property of the ports that holds once the chain is filled and CUR is 0
(70_reset_and_hazards R341). -/
theorem PortInvariant.initSequence (hP : PortInvariant P) (s : State)
    (h : P (setCur 0 { srSetAll true s with busHeld := false })) : P (initSequence s) := by
  have hcleared : P (clearTables (srSetAll true { s with phase := .init, busHeld := false })) :=
    hP.ofSamePorts h (by simp only [srSetAll_eq]; exact {})
  exact hP.ofSamePorts (hP.calibrate _ hcleared) {}

end

/-! ## CUR and the chain (10_state R34) -/

theorem config_wellFormed_iff (k : Config) :
    k.wellFormed = true ↔ 1 ≤ k.devices ∧ k.devices ≤ 255 ∧ 4 ≤ k.channels ∧ k.channels ≤ 8 ∧
      1 ≤ k.calN ∧ k.calN ≤ 65535 ∧ 1 ≤ k.avgN ∧ k.avgN ≤ 65535 := by
  simp [Config.wellFormed]

/-- The parameters are in range and CUR and the chain correspond. -/
def SelectsOneLine (s : State) : Prop := s.cfg.wellFormed = true ∧ Corresponds s

theorem corresponds_of_deselected {s : State} (hcur : s.cur = 0)
    (hsr : s.sr = List.replicate s.cfg.devices true) : Corresponds s := by
  unfold Corresponds
  rw [hsr, hcur]
  exact ⟨Nat.zero_le _, (chainSelecting_zero _).symm⟩

theorem selectsOneLine_selectCore (d : Nat) (s : State) (h : SelectsOneLine s) :
    SelectsOneLine (selectCore d s).2 := by
  obtain ⟨hwf, hcor⟩ := h
  obtain ⟨hpos, hmax, -⟩ := (config_wellFormed_iff _).1 hwf
  by_cases hd : validDevice s.cfg d = true
  · rw [selectCore_valid d s hd hmax hcor]
    exact ⟨hwf, afterReads_corresponds s d 0 [] hd hmax⟩
  · rw [selectCore_invalid d s (by simpa using hd) hpos]
    exact ⟨hwf, corresponds_of_deselected rfl rfl⟩

/-- The correspondence invariant is one of the ports (10_state R34). -/
theorem portInvariant_selectsOneLine : PortInvariant SelectsOneLine where
  ofSamePorts := by
    intro s t h hst
    simpa only [SelectsOneLine, Corresponds, hst.cfg, hst.sr, hst.cur] using h
  selectCore := selectsOneLine_selectCore
  frame c s h := by
    rw [frame, exchange_eq]
    exact h

/-- INIT sets the correspondence up, whatever the state was (70_reset_and_hazards R342). -/
theorem selectsOneLine_initSequence (s : State) (hwf : s.cfg.wellFormed = true) :
    SelectsOneLine (initSequence s) := by
  obtain ⟨hpos, -⟩ := (config_wellFormed_iff _).1 hwf
  apply portInvariant_selectsOneLine.initSequence
  rw [srSetAll_eq, if_neg (Nat.ne_of_gt hpos)]
  exact ⟨hwf, corresponds_of_deselected rfl rfl⟩

@[simp] theorem enterReset_cfg (s : State) : (enterReset s).cfg = s.cfg := by
  unfold enterReset
  split <;> rfl

/-- What the correspondence says of each line. -/
theorem Corresponds.line {s : State} (h : Corresponds s) {k : Nat} (hk : k < s.cfg.devices) :
    s.sr.getD k false = decide (k + 1 ≠ s.cur.toNat) := by
  rw [h.2, List.getD_eq_getElem _ _ (by simpa using hk), chainSelecting_getElem]

/-- Settles O20: the correspondence is an invariant of the ports, and INIT fills the chain and
clears CUR before its first selection. -/
theorem curAndChainAgree : Obligations.CurAndChainAgree := by
  unfold Obligations.CurAndChainAgree
  refine ⟨?_, ?_, ?_⟩
  · intro i s t hwf hcor hexec
    exact (portInvariant_selectsOneLine.exec ⟨hwf, hcor⟩ hexec).2
  · intro s hwf
    exact (selectsOneLine_initSequence (enterReset s) (by simpa using hwf)).2
  · intro s hcor
    refine ⟨by rw [hcor.2, chainSelecting_length], fun hzero k hk => ?_, fun hpos k hk => ?_⟩
    · rw [hcor.line hk, hzero]
      simp
    · rw [hcor.line hk]
      exact decide_eq_decide.2 (by omega)

end Sys2Proof.Machine
end

section
/-! PROOFS. What each instruction writes in the tables: a read writes none of them, and each command
that stores readings or modes writes its own (spec 10_state R35 to R40, R47). -/

namespace Sys2Proof.Machine

/-! ## Reads write no table -/

/-- Two states that agree in the parameters, the tables and the pending moves. -/
structure SameTables (s t : State) : Prop where
  cfg : t.cfg = s.cfg := by rfl
  mode : t.mode = s.mode := by rfl
  base : t.base = s.base := by rfl
  acc : t.acc = s.acc := by rfl
  chbuf : t.chbuf = s.chbuf := by rfl
  rawbuf : t.rawbuf = s.rawbuf := by rfl
  xout : t.xout = s.xout := by rfl
  yout : t.yout = s.yout := by rfl
  pending : t.pending = s.pending := by rfl

theorem SameTables.refl (s : State) : SameTables s s := {}

theorem SameTables.trans {s t u : State} (hst : SameTables s t) (htu : SameTables t u) :
    SameTables s u :=
  ⟨htu.cfg.trans hst.cfg, htu.mode.trans hst.mode, htu.base.trans hst.base, htu.acc.trans hst.acc,
    htu.chbuf.trans hst.chbuf, htu.rawbuf.trans hst.rawbuf, htu.xout.trans hst.xout,
    htu.yout.trans hst.yout, htu.pending.trans hst.pending⟩

theorem srSetAll_sameTables (b : Bool) (s : State) : SameTables s (srSetAll b s) := by
  rw [srSetAll_eq]
  exact {}

theorem selectStart_sameTables (t : Nat) (s : State) : SameTables s (selectStart t s) := by
  unfold selectStart
  split
  · exact (srSetAll_sameTables true s).trans {}
  · exact SameTables.refl s

theorem selectCore_sameTables (d : Nat) (s : State) : SameTables s (selectCore d s).2 := by
  unfold selectCore
  split
  · rw [repeat_srAdvance]
    exact (selectStart_sameTables d s).trans {}
  · exact (srSetAll_sameTables true s).trans {}

theorem frame_sameTables (c : Nat) (s : State) : SameTables s (frame c s).2 := by
  rw [frame, exchange_eq]
  exact {}

theorem readCore_sameTables (d c : Nat) (s : State) : SameTables s (readCore d c s).2 := by
  simp only [readCore]
  split
  · exact (selectCore_sameTables d s).trans (frame_sameTables c _)
  · exact selectCore_sameTables d s

theorem channelWork_sameTables (dev ch : Nat) (s : State) :
    SameTables s (channelWork dev ch s) := by
  unfold channelWork
  split
  · exact readCore_sameTables dev ch s
  · exact SameTables.refl s

theorem samplePlate_sameTables (p : Nat) (s : State) : SameTables s (samplePlate p s).2 :=
  repeatTimes_keeps (fun x : List Nat × State => SameTables s x.2) _
    (fun x hx => forUpTo_keeps (fun _ x => SameTables s x.2) _ _
      (fun c x _ hx => hx.trans (readCore_sameTables (p + 1) c x.2)) x hx) _ _ (SameTables.refl s)

/-! ## What the storing commands write

Each statement puts the written table back: all others are as they were. -/

/-- ADC_READ_ALL writes CHBUF only (10_state R38). -/
theorem readAll_writes_chbuf (dev n : Nat) (s : State) :
    SameTables s { forUpTo n (readIntoChbuf dev) s with chbuf := s.chbuf } := by
  refine forUpTo_keeps (fun _ t => SameTables s { t with chbuf := s.chbuf }) _ _ ?_ s {}
  intro c t _ ht
  have hread := readCore_sameTables dev c t
  exact ht.trans { hread with chbuf := rfl }

/-- SET_CONFIG writes MODE only (10_state R35). -/
theorem configWork_writes_mode (b : Mode) (ch : Nat) (s : State) :
    SameTables s { configWork b ch s with mode := s.mode } := by
  unfold configWork
  split_ifs
  · refine forUpTo_keeps (fun _ t => SameTables s { t with mode := s.mode }) _ _ ?_ s {}
    intro c t _ ht
    exact ht.trans {}
  · cases b <;> exact {}
  · exact {}

/-- SA_READ_ALL writes X and Y only (10_state R40). -/
theorem readPlates_writes_xy (n : Nat) (s : State) :
    SameTables s { forUpTo n readPlate s with xout := s.xout, yout := s.yout } := by
  refine forUpTo_keeps (fun _ t => SameTables s { t with xout := s.xout, yout := s.yout })
    _ _ ?_ s {}
  intro p t _ ht
  have hsample := samplePlate_sameTables p t
  exact ht.trans { hsample with xout := rfl, yout := rfl }

/-- SA_READ_ALL_RAW writes RAWBUF only (10_state R39). -/
theorem rawSweep_writes_rawbuf (s : State) :
    SameTables s { rawSweep s with rawbuf := s.rawbuf } := by
  refine forUpTo_keeps (fun _ t => SameTables s { t with rawbuf := s.rawbuf }) _ _ ?_ s {}
  intro p t _ ht
  refine forUpTo_keeps (fun _ t => SameTables s { t with rawbuf := s.rawbuf }) _ _ ?_ t ht
  intro c u _ hu
  have hread := readCore_sameTables (p + 1) c u
  exact hu.trans { hread with rawbuf := rfl }

/-! ## The writers of each table (10_state R47) -/

/-- From `s` to `t`, instruction `i` has written no table but its own. -/
structure WritesOwnTables (i : Instr) (s t : State) : Prop where
  cfg : t.cfg = s.cfg
  base : t.base = s.base
  acc : t.acc = s.acc
  pending : t.pending = s.pending
  mode : (∀ b ch, i ≠ .setConfig b ch) → t.mode = s.mode
  chbuf : (∀ dev, i ≠ .adcReadAll dev) → t.chbuf = s.chbuf
  rawbuf : i ≠ .saReadAllRaw → t.rawbuf = s.rawbuf
  xy : i ≠ .saReadAll → t.xout = s.xout ∧ t.yout = s.yout

theorem SameTables.writesOwnTables {i : Instr} {s t : State} (h : SameTables s t) :
    WritesOwnTables i s t where
  cfg := h.cfg
  base := h.base
  acc := h.acc
  pending := h.pending
  mode _ := h.mode
  chbuf _ := h.chbuf
  rawbuf _ := h.rawbuf
  xy _ := ⟨h.xout, h.yout⟩

theorem work_writesOwnTables (i : Instr) (s : State) : WritesOwnTables i s (work i s) := by
  cases i with
  | select dev => exact (selectCore_sameTables dev s).writesOwnTables
  | adcRead dev ch => exact (channelWork_sameTables dev ch s).writesOwnTables
  | adcReadAll dev =>
    have h := (readAll_writes_chbuf dev s.cfg.channels s).writesOwnTables (i := .adcReadAll dev)
    exact { h with chbuf := fun hne => absurd rfl (hne dev) }
  | getConfig ch => exact (SameTables.refl s).writesOwnTables
  | setConfig b ch =>
    have h := (configWork_writes_mode b ch s).writesOwnTables (i := .setConfig b ch)
    exact { h with mode := fun hne => absurd rfl (hne b ch) }
  | rawToVoltage vref raw => exact (SameTables.refl s).writesOwnTables
  | saReadAll =>
    have h := (readPlates_writes_xy s.cfg.devices s).writesOwnTables (i := .saReadAll)
    exact { h with xy := fun hne => absurd rfl hne }
  | saReadAllRaw =>
    have h := (rawSweep_writes_rawbuf s).writesOwnTables (i := .saReadAllRaw)
    exact { h with rawbuf := fun hne => absurd rfl hne }
  | saReadChannel dev ch => exact (channelWork_sameTables dev ch s).writesOwnTables
  | readBuf addr => exact (SameTables.refl s).writesOwnTables
  | adcCmdSingle ch => exact (channelWork_sameTables s.cur.toNat ch s).writesOwnTables
  | adcCmdDiff ch => exact (channelWork_sameTables s.cur.toNat ch s).writesOwnTables

/-- The commands that do not select leave the ports as they are (40_selector R149). -/
theorem work_samePorts {i : Instr} (s : State)
    (hi : (∃ ch b, i = .getConfig ch ∨ i = .setConfig b ch) ∨
      (∃ v r, i = .rawToVoltage v r ∨ i = .readBuf r)) : SamePorts s (work i s) := by
  obtain ⟨ch, b, rfl | rfl⟩ | ⟨v, r, rfl | rfl⟩ := hi
  · exact SamePorts.refl s
  · exact configWork_samePorts b ch s
  · exact SamePorts.refl s
  · exact SamePorts.refl s

/-- Settles O44: an instruction's work writes its own tables only, and its response writes the
response registers and the phase. -/
theorem stateHasOnlyItsWriters : Obligations.StateHasOnlyItsWriters := by
  unfold Obligations.StateHasOnlyItsWriters
  intro i s t hexec
  obtain ⟨st, r, rfl⟩ := exec_responds hexec
  have hw := work_writesOwnTables i s
  exact ⟨hw.cfg, hw.base, hw.acc, hw.pending, hw.mode, hw.chbuf, hw.rawbuf, hw.xy,
    fun hi => ⟨(work_samePorts s hi).sr, (work_samePorts s hi).cur⟩, rfl, rfl⟩

end Sys2Proof.Machine
end

section
/-! PROOFS. The states between commands: what the wire carries, the ranges of the stored words, and
the invariant that every step keeps (spec 20_memory R75, R84; 43_sensor_array R246). -/

namespace Sys2Proof.Machine

/-! ## The wire (20_memory R84) -/

theorem bracketRun_append (n : Nat) (es fs : List Event) :
    bracketRun n (es ++ fs) = (bracketRun n es).bind fun m => bracketRun m fs := by
  induction es generalizing n with
  | nil => rfl
  | cons e es ih =>
    simp only [List.cons_append, bracketRun]
    cases bracketStep n e with
    | none => rfl
    | some m => exact ih m

theorem replayChain_append (n : Nat) (sr : List Bool) (es fs : List Event) :
    replayChain n sr (es ++ fs) = replayChain n (replayChain n sr es) fs := by
  induction es generalizing sr with
  | nil => rfl
  | cons e es ih => cases e <;> exact ih _

/-- The first two bytes of a frame are those of one of the 16 words (30_encoding R109, R111). -/
theorem patternByte_adcWord (sgl : Bool) (ch : Nat) :
    patternByte 1 (firstByte (adcWord sgl ch)) = true ∧
      patternByte 2 (secondByte (adcWord sgl ch)) = true := by
  have all_words : ∀ (b : Bool) (c : Fin 8),
      patternByte 1 (firstByte (adcWord b c)) = true ∧
        patternByte 2 (secondByte (adcWord b c)) = true := by decide
  have hword : adcWord sgl ch = adcWord sgl (ch % 8) := by
    simp only [adcWord, place, show BitVec.ofNat 3 (ch % 8) = BitVec.ofNat 3 ch by
      apply BitVec.eq_of_toNat_eq; simp]
  rw [hword]
  exact all_words sgl ⟨ch % 8, Nat.mod_lt _ (by decide)⟩

/-- An exchange of a fitting byte is the bracket's next one. -/
theorem bracketStep_spiXfer {n : Nat} {tx : Byte} (rx : Byte) (hn : n < 3)
    (htx : patternByte (n + 1) tx = true) :
    bracketStep (n + 1) (.spiXfer tx rx) = some (n + 2) := by
  simp [bracketStep, hn, htx]

/-- A frame is one closed bracket. -/
theorem wellBracketed_frameEvents (sgl : Bool) (ch : Nat) (r1 r2 r3 : Byte) :
    WellBracketed (frameEvents (adcWord sgl ch) r1 r2 r3) := by
  obtain ⟨hfirst, hsecond⟩ := patternByte_adcWord sgl ch
  have hbegin : bracketStep 0 .spiBegin = some 1 := rfl
  have hend : bracketStep 4 .spiEnd = some 0 := rfl
  have hthird : patternByte 3 0 = true := by decide
  simp only [WellBracketed, frameEvents, bracketRun, hbegin, hend, Option.bind_some,
    bracketStep_spiXfer r1 (by decide) hfirst, bracketStep_spiXfer r2 (by decide) hsecond,
    bracketStep_spiXfer r3 (by decide) hthird]

/-- The wire is in order for a chain that held `sr` when the trace began: closed brackets only, the
shifts lead from `sr` to the chain as it is, and the bus is free. -/
structure WireFrom (sr : List Bool) (s : State) : Prop where
  brackets : WellBracketed s.trace
  chain : replayChain s.cfg.devices sr s.trace = s.sr
  free : s.busHeld = false

section
variable {sr : List Bool}

theorem WireFrom.ofSamePorts {s t : State} (h : WireFrom sr s) (hst : SamePorts s t) :
    WireFrom sr t where
  brackets := by rw [hst.trace]; exact h.brackets
  chain := by rw [hst.cfg, hst.trace, hst.sr]; exact h.chain
  free := by rw [hst.busHeld]; exact h.free

theorem WireFrom.srAdvance (b : Bool) (s : State) (h : WireFrom sr s) :
    WireFrom sr (srAdvance b s) where
  brackets := by
    rw [srAdvance_trace, WellBracketed, bracketRun_append, h.brackets]
    rfl
  chain := by
    rw [srAdvance_trace, srAdvance_cfg, srAdvance_sr, replayChain_append, h.chain]
    rfl
  free := h.free

theorem WireFrom.setCur (k : Nat) (s : State) (h : WireFrom sr s) : WireFrom sr (setCur k s) :=
  ⟨h.brackets, h.chain, h.free⟩

theorem WireFrom.srSetAll (b : Bool) (s : State) (h : WireFrom sr s) : WireFrom sr (srSetAll b s) :=
  repeatTimes_keeps _ _ (WireFrom.srAdvance b) _ s h

theorem WireFrom.selectStart (t : Nat) (s : State) (h : WireFrom sr s) :
    WireFrom sr (selectStart t s) := by
  unfold Machine.selectStart
  split
  · exact ((h.srSetAll true).srAdvance false).setCur 1
  · exact h

theorem WireFrom.selectCore (d : Nat) (s : State) (h : WireFrom sr s) :
    WireFrom sr (selectCore d s).2 := by
  unfold Machine.selectCore
  split
  · exact (repeatTimes_keeps _ _ (WireFrom.srAdvance true) _ _ (h.selectStart d)).setCur d
  · exact (h.srSetAll true).setCur 0

theorem WireFrom.frame (c : Nat) (s : State) (h : WireFrom sr s) : WireFrom sr (frame c s).2 := by
  rw [Machine.frame, exchange_eq]
  constructor
  · rw [WellBracketed, bracketRun_append, h.brackets]
    exact wellBracketed_frameEvents _ _ _ _ _
  · rw [replayChain_append, h.chain]
    rfl
  · rfl

/-- The wire in order is an invariant of the ports. -/
theorem portInvariant_wireFrom : PortInvariant (WireFrom sr) where
  ofSamePorts := WireFrom.ofSamePorts
  selectCore := WireFrom.selectCore
  frame := WireFrom.frame

/-- INIT keeps the wire in order. -/
theorem WireFrom.initSequence (s : State) (h : WireFrom sr s) : WireFrom sr (initSequence s) := by
  apply portInvariant_wireFrom.initSequence
  have hfill := h.srSetAll true
  exact ⟨hfill.brackets, hfill.chain, rfl⟩

end

/-! ## Readings (20_memory R75) -/

/-- A decoded answer has its high nibble zero (41_adc_protocol R171). -/
theorem isReading_adcDecode (r2 r3 : Byte) : IsReading (adcDecode r2 r3) := by
  have hnibble := (r2.extractLsb' 0 4).isLt
  have hvalue : (adcDecode r2 r3).toNat = (r2.extractLsb' 0 4).toNat * 2 ^ 8 + r3.toNat := by
    rw [adcDecode, BitVec.toNat_append, BitVec.toNat_append,
      ← Nat.shiftLeft_add_eq_or_of_lt r3.isLt, Nat.shiftLeft_eq]
    simp
  unfold IsReading
  omega

theorem isReading_readCore (d c : Nat) (s : State) : IsReading (readCore d c s).1 := by
  simp only [readCore]
  split
  · rw [frame, exchange_eq]
    exact isReading_adcDecode _ _
  · exact Nat.zero_le _

/-! ## The averages of SA_READ_ALL (43_sensor_array R243) -/

/-- One pass over the channels of a plate adds at most one full-scale reading to each sum. -/
theorem sums_pass_le (p n b : Nat) (x : List Nat × State) (hx : ∀ c, x.1.getD c 0 ≤ b) (c : Nat) :
    (forUpTo n (addReading p) x).1.getD c 0 ≤ b + 4095 := by
  have hpass := forUpTo_keeps
    (fun i (y : List Nat × State) => ∀ c, y.1.getD c 0 ≤ if c < i then b + 4095 else b)
    (addReading p) n ?_ x (fun c => by simpa using hx c)
  · exact (hpass c).trans (by split <;> omega)
  · intro i y _ hy c
    have hread : (readCore (p + 1) i y.2).1.toNat ≤ 4095 := isReading_readCore (p + 1) i y.2
    have hc := hy c
    simp only [addReading]
    by_cases hci : c = i
    · subst hci
      by_cases hlen : c < y.1.length
      · simp only [List.getD_eq_getElem?_getD, List.getElem?_set_self hlen,
          Option.getD_some] at hc ⊢
        split_ifs at hc ⊢ <;> omega
      · rw [List.getD_eq_default _ _ (by simpa using hlen)]
        exact Nat.zero_le _
    · rw [List.getD_eq_getElem?_getD, List.getElem?_set_ne (Ne.symm hci),
        ← List.getD_eq_getElem?_getD]
      split_ifs at hc ⊢ <;> omega

theorem samplePlate_sums_le (p : Nat) (s : State) (c : Nat) :
    (samplePlate p s).1.getD c 0 ≤ 4095 * s.cfg.avgN := by
  unfold samplePlate
  induction s.cfg.avgN generalizing c with
  | zero =>
    by_cases hc : c < Config.plateChannels <;> simp [List.getD_eq_getElem?_getD, hc]
  | succ n ih => exact sums_pass_le p _ _ _ ih c

/-- An average of readings is in the range of a reading. -/
theorem averages_le (p : Nat) (s : State) (c : Nat) :
    (((samplePlate p s).1.map fun sum => fdiv sum s.cfg.avgN).getD c 0) ≤ 4095 := by
  have hzero : fdiv 0 s.cfg.avgN = 0 := Nat.zero_div _
  have hsum := samplePlate_sums_le p s c
  rw [← hzero, List.getD_map]
  exact Nat.div_le_of_le_mul (by rwa [Nat.mul_comm])

theorem plateBaselines_le (p : Nat) (s : State) (c : Nat) :
    (plateBaselines p s).getD c 0 ≤ 4095 := by
  by_cases hc : c < (plateBaselines p s).length
  · rw [List.getD_eq_getElem _ _ hc]
    simp only [plateBaselines, List.getElem_map]
    exact Nat.le_of_lt_succ (BitVec.isLt _)
  · rw [List.getD_eq_default _ _ (by omega)]
    exact Nat.zero_le _

/-! ## The differences (43_sensor_array R246) -/

theorem tdiv_two_bounds {a b : Int} (h : -(2 * b) ≤ a ∧ a ≤ 2 * b) :
    -b ≤ tdiv a 2 ∧ tdiv a 2 ≤ b := by
  have hsign : (2 : Int).sign = 1 := rfl
  have habs : (2 : Int).natAbs = 2 := rfl
  rw [tdiv, hsign, habs]
  obtain hneg | rfl | hpos := lt_trichotomy a 0
  · rw [Int.sign_eq_neg_one_of_neg hneg]
    omega
  · rw [Int.sign_zero]
    omega
  · rw [Int.sign_eq_one_of_pos hpos]
    omega

/-- Of readings and baselines in range, an average of a pair is in the range of a reading. -/
theorem pairAverage_bounds {v bp : List Nat} (hv : ∀ c, v.getD c 0 ≤ 4095)
    (hb : ∀ c, bp.getD c 0 ≤ 4095) (i j : Nat) :
    -4095 ≤ pairAverage (corrected v bp) i j ∧ pairAverage (corrected v bp) i j ≤ 4095 := by
  have hvi := hv i
  have hvj := hv j
  have hbi := hb i
  have hbj := hb j
  apply tdiv_two_bounds
  unfold corrected
  omega

theorem isDifference_s16 {v : Int} (h : -8190 ≤ v ∧ v ≤ 8190) : IsDifference (s16 v) := by
  rw [IsDifference, s16, BitVec.toInt_ofInt_eq_self (by decide) (by omega) (by omega)]
  exact h

/-- X and Y are differences of two such averages (43_sensor_array R242). -/
theorem isDifference_plateDiff {v bp : List Nat} (hv : ∀ c, v.getD c 0 ≤ 4095)
    (hb : ∀ c, bp.getD c 0 ≤ 4095) :
    IsDifference (s16 (plateDiff v bp).1) ∧ IsDifference (s16 (plateDiff v bp).2) := by
  have h01 := pairAverage_bounds hv hb 0 1
  have h23 := pairAverage_bounds hv hb 2 3
  have h13 := pairAverage_bounds hv hb 1 3
  have h02 := pairAverage_bounds hv hb 0 2
  simp only [plateDiff]
  exact ⟨isDifference_s16 (by omega), isDifference_s16 (by omega)⟩

end Sys2Proof.Machine
end

section
/-! PROOFS. The tables of a good state: sizes and ranges, and that every command and every reset
keeps them (spec 10_state R35 to R40, R48). -/

namespace Sys2Proof.Machine

/-- The tables have their sizes and ranges. -/
def TablesGood (s : State) : Prop := Shaped s ∧ InRange s

theorem TablesGood.ofSameTables {s t : State} (h : TablesGood s) (hst : SameTables s t) :
    TablesGood t := by
  simpa only [TablesGood, Shaped, InRange, hst.cfg, hst.mode, hst.base, hst.acc, hst.chbuf,
    hst.rawbuf, hst.xout, hst.yout] using h

/-! ## One lemma per table written -/

/-- What holds of each row, and still holds once an entry is replaced, holds of the rows of the
table with that entry replaced. -/
theorem forall_mem_setCell {α : Type} {Q : List α → Prop} {m : List (List α)} {p c : Nat} {v : α}
    (hm : ∀ r ∈ m, Q r) (hset : ∀ r, Q r → Q (r.set c v)) : ∀ r ∈ setCell m p c v, Q r := by
  unfold setCell
  by_cases hp : p < m.length
  · intro r hr
    obtain hold | rfl := List.mem_or_eq_of_mem_set hr
    · exact hm r hold
    · rw [List.getD_eq_getElem _ _ hp]
      exact hset _ (hm _ (List.getElem_mem hp))
  · rwa [List.set_eq_of_length_le (by omega)]

theorem forall_mem_set {α : Type} {Q : α → Prop} {l : List α} {n : Nat} {v : α}
    (hl : ∀ x ∈ l, Q x) (hv : Q v) : ∀ x ∈ l.set n v, Q x := by
  intro x hx
  obtain hold | rfl := List.mem_or_eq_of_mem_set hx
  · exact hl x hold
  · exact hv

theorem TablesGood.setMode {s : State} (h : TablesGood s) (c : Nat) (b : Mode) :
    TablesGood (setMode c b s) := by
  obtain ⟨⟨hmode, hshapes⟩, hrange⟩ := h
  exact ⟨⟨by simpa using hmode, hshapes⟩, hrange⟩

theorem TablesGood.setChbuf {s : State} (h : TablesGood s) {c : Nat} {v : Half}
    (hc : c < s.cfg.channels) (hv : IsReading v) :
    TablesGood { s with chbuf := s.chbuf.set c v } := by
  obtain ⟨⟨hmode, hbase, hacc, hchbuf, hshapes⟩, hreadings, htail, hrange⟩ := h
  refine ⟨⟨hmode, hbase, hacc, by simpa using hchbuf, hshapes⟩,
    forall_mem_set hreadings hv, ?_, hrange⟩
  rwa [List.drop_set_of_lt hc]

theorem TablesGood.setRawbuf {s : State} (h : TablesGood s) (p c : Nat) {v : Half}
    (hv : IsReading v) : TablesGood { s with rawbuf := setCell s.rawbuf p c v } := by
  obtain ⟨⟨hmode, hbase, hacc, hchbuf, ⟨hrows, hcols⟩, hxy⟩, hreadings, htail, hraw, hrange⟩ := h
  have hrows' : (setCell s.rawbuf p c v).length = s.cfg.devices := by simpa [setCell] using hrows
  have hcols' := forall_mem_setCell (p := p) (c := c) (v := v) hcols fun r hr => by simpa using hr
  have hraw' := forall_mem_setCell (Q := fun r => ∀ w ∈ r, IsReading w) (p := p) (c := c) (v := v)
    hraw fun r hr => forall_mem_set hr hv
  exact ⟨⟨hmode, hbase, hacc, hchbuf, ⟨hrows', hcols'⟩, hxy⟩, hreadings, htail, hraw', hrange⟩

theorem TablesGood.setXY {s : State} (h : TablesGood s) (p : Nat) {x y : Half}
    (hx : IsDifference x) (hy : IsDifference y) :
    TablesGood { s with xout := s.xout.set p x, yout := s.yout.set p y } := by
  obtain ⟨⟨hmode, hbase, hacc, hchbuf, hrawbuf, hxlen, hylen⟩, hreadings, htail, hraw, hxs, hys⟩
    := h
  exact ⟨⟨hmode, hbase, hacc, hchbuf, hrawbuf, by simpa using hxlen, by simpa using hylen⟩,
    hreadings, htail, hraw, forall_mem_set hxs hx, forall_mem_set hys hy⟩

/-! ## Every command keeps the tables good -/

theorem TablesGood.readCore {s : State} (h : TablesGood s) (d c : Nat) :
    TablesGood (readCore d c s).2 := h.ofSameTables (readCore_sameTables d c s)

theorem TablesGood.readAll {s : State} (h : TablesGood s) (dev : Nat) :
    TablesGood (forUpTo s.cfg.channels (readIntoChbuf dev) s) := by
  have hpasses := forUpTo_keeps (fun _ t => t.cfg = s.cfg ∧ TablesGood t) (readIntoChbuf dev)
    s.cfg.channels ?_ s ⟨rfl, h⟩
  · exact hpasses.2
  · intro c t hc ⟨hcfg, ht⟩
    have hcfg' : (Machine.readCore dev c t).2.cfg = s.cfg :=
      (readCore_sameTables dev c t).cfg.trans hcfg
    exact ⟨hcfg', (ht.readCore dev c).setChbuf (by rwa [hcfg']) (isReading_readCore dev c t)⟩

theorem TablesGood.rawSweep {s : State} (h : TablesGood s) : TablesGood (rawSweep s) :=
  forUpTo_keeps (fun _ => TablesGood) _ _
    (fun p t _ ht => forUpTo_keeps (fun _ => TablesGood) _ _
      (fun c u _ hu =>
        (hu.readCore (p + 1) c).setRawbuf p c (isReading_readCore (p + 1) c u)) t ht) s h

theorem TablesGood.readPlate {s : State} (h : TablesGood s) (p : Nat) :
    TablesGood (readPlate p s) := by
  obtain ⟨hx, hy⟩ := isDifference_plateDiff (averages_le p s) (plateBaselines_le p s)
  exact (h.ofSameTables (samplePlate_sameTables p s)).setXY p hx hy

theorem TablesGood.configWork {s : State} (h : TablesGood s) (b : Mode) (ch : Nat) :
    TablesGood (configWork b ch s) := by
  unfold Machine.configWork
  split_ifs
  · exact forUpTo_keeps (fun _ => TablesGood) _ _ (fun c t _ ht => ht.setMode c b) s h
  · cases b with
    | differential => exact (h.setMode _ _).setMode _ _
    | single => exact h.setMode _ _
  · exact h

theorem TablesGood.channelWork {s : State} (h : TablesGood s) (dev ch : Nat) :
    TablesGood (channelWork dev ch s) := h.ofSameTables (channelWork_sameTables dev ch s)

theorem TablesGood.work {s : State} (h : TablesGood s) (i : Instr) : TablesGood (work i s) := by
  cases i with
  | select dev => exact h.ofSameTables (selectCore_sameTables dev s)
  | adcRead dev ch => exact h.channelWork dev ch
  | adcReadAll dev => exact h.readAll dev
  | getConfig ch => exact h
  | setConfig b ch => exact h.configWork b ch
  | rawToVoltage vref raw => exact h
  | saReadAll => exact forUpTo_keeps (fun _ => TablesGood) _ _ (fun p t _ ht => ht.readPlate p) s h
  | saReadAllRaw => exact h.rawSweep
  | saReadChannel dev ch => exact h.channelWork dev ch
  | readBuf addr => exact h
  | adcCmdSingle ch => exact h.channelWork s.cur.toNat ch
  | adcCmdDiff ch => exact h.channelWork s.cur.toNat ch

/-! ## The tables after INIT (10_state R48) -/

theorem hasShape_range {α : Type} (f : Nat → Nat → α) (rows cols : Nat) :
    HasShape ((List.range rows).map fun p => (List.range cols).map (f p)) rows cols := by
  simp [HasShape]

/-- The tables as INIT leaves them: every mode SINGLE, every buffer 0, baselines and accumulators of
their sizes. -/
structure TablesCleared (s : State) : Prop where
  mode : s.mode = List.replicate Config.maxPorts .single
  base : HasShape s.base s.cfg.devices s.cfg.channels
  acc : HasShape s.acc s.cfg.devices s.cfg.channels
  chbuf : s.chbuf = List.replicate Config.maxPorts 0
  rawbuf : s.rawbuf = List.replicate s.cfg.devices (List.replicate s.cfg.channels 0)
  xout : s.xout = List.replicate s.cfg.devices 0
  yout : s.yout = List.replicate s.cfg.devices 0

theorem TablesCleared.shaped {s : State} (h : TablesCleared s) : Shaped s := by
  refine ⟨?_, h.base, h.acc, ?_, ?_, ?_, ?_⟩
  · rw [h.mode]
    rfl
  · rw [h.chbuf]
    rfl
  · rw [h.rawbuf]
    simp [HasShape]
  · rw [h.xout, List.length_replicate]
  · rw [h.yout, List.length_replicate]

theorem TablesCleared.inRange {s : State} (h : TablesCleared s) : InRange s := by
  have zeros {P : Half → Prop} (hP : P 0) (n : Nat) : ∀ v ∈ List.replicate n (0 : Half), P v :=
    fun v hv => List.eq_of_mem_replicate hv ▸ hP
  refine ⟨?_, ?_, ?_, ?_, ?_⟩
  · rw [h.chbuf]
    exact zeros (Nat.zero_le _) _
  · rw [h.chbuf, List.drop_replicate]
    exact zeros (P := fun v => v = 0) rfl _
  · rw [h.rawbuf]
    intro r hr
    rw [List.eq_of_mem_replicate hr]
    exact zeros (Nat.zero_le _) _
  · rw [h.xout]
    exact zeros (by decide) _
  · rw [h.yout]
    exact zeros (by decide) _

theorem TablesCleared.good {s : State} (h : TablesCleared s) : TablesGood s := ⟨h.shaped, h.inRange⟩

/-- A sample pass writes ACC only (10_state R37). -/
theorem samplePass_writes_acc {s t : State} (h : SameTables s { t with acc := s.acc }) :
    SameTables s { samplePass t with acc := s.acc } := by
  refine forUpTo_keeps (fun _ u => SameTables s { u with acc := s.acc }) _ _ ?_ t h
  intro p u _ hu
  refine forUpTo_keeps (fun _ v => SameTables s { v with acc := s.acc }) _ _ ?_ u hu
  intro c v _ hv
  have hread := readCore_sameTables (p + 1) c v
  exact hv.trans { hread with acc := rfl }

/-- A calibration writes BASE and ACC only (10_state R36, R37). -/
theorem calibrate_writes_base (s : State) :
    SameTables s { calibrate s with base := s.base, acc := s.acc } := by
  have hpasses := repeatTimes_keeps (fun t => SameTables s { t with acc := s.acc }) samplePass
    (fun t => samplePass_writes_acc) s.cfg.calN
    { s with acc := List.replicate s.cfg.devices (List.replicate s.cfg.channels 0) } {}
  exact { hpasses with base := rfl }

theorem tablesCleared_initSequence (s : State) : TablesCleared (initSequence s) := by
  have hcal := calibrate_writes_base
    (clearTables (srSetAll true { s with phase := .init, busHeld := false }))
  have hcfg : (initSequence s).cfg = _ := hcal.cfg
  exact
    { mode := hcal.mode
      base := hasShape_range _ _ _
      acc := hasShape_range _ _ _
      chbuf := hcal.chbuf
      rawbuf := by rw [hcfg]; exact hcal.rawbuf
      xout := by rw [hcfg]; exact hcal.xout
      yout := by rw [hcfg]; exact hcal.yout }

end Sys2Proof.Machine
end

section
/-! PROOFS. What a step can do, and the invariant of the states between commands (spec 30_encoding
R105, R114; 70_reset_and_hazards R353). -/

namespace Sys2Proof.Machine

/-! ## What a step can do -/

/-- The ways a step goes on from `s`, one per move of the world and reading of its word. -/
inductive StepsTo (s : State) : State → Prop where
  /-- No move is listed: the block waits. -/
  | idle (hpending : s.pending = []) : StepsTo s s
  /-- A command is accepted, decodes and completes. -/
  | command {w : Command} {rest : List Move} {i : Instr} {t : State}
      (hpending : s.pending = .command w :: rest) (hready : cmdReady s = true)
      (hdecode : decodeHost w = .instr i)
      (hexec : exec i { s with pending := rest, phase := .busy } = .next t) : StepsTo s t
  /-- A command is accepted and does not decode. -/
  | illegal {w : Command} {rest : List Move} {e : DecodeError}
      (hpending : s.pending = .command w :: rest) (hready : cmdReady s = true)
      (hdecode : decodeHost w = .rejected e) :
      StepsTo s (raise .illegalCmd { s with pending := rest, phase := .busy })
  /-- The host takes the response. -/
  | response {rest : List Move} (hpending : s.pending = .takeResponse :: rest) :
      StepsTo s (takeResponse { s with pending := rest })
  /-- A reset pulse. -/
  | reset {rest : List Move} (hpending : s.pending = .reset :: rest) :
      StepsTo s (resetPulse { s with pending := rest })

theorem acceptCommand_of_not_ready {s : State} (h : cmdReady s = false) (w : Command) :
    acceptCommand w s = .refused .commandWhileNotReady := by
  simp [acceptCommand, h]

theorem stepsTo_of_step {s t : State} (h : step s = .next t) : StepsTo s t := by
  cases hpending : s.pending with
  | nil =>
    simp only [step, serveNext, hpending] at h
    cases h
    exact .idle hpending
  | cons m rest =>
    rw [step_of_pending hpending] at h
    cases m with
    | command w =>
      cases hready : cmdReady s with
      | false =>
        rw [serve, acceptCommand_of_not_ready (s := { s with pending := rest }) hready] at h
        cases h
      | true =>
        rw [serve, acceptCommand_of_ready (s := { s with pending := rest }) hready] at h
        cases hdecode : decodeHost w with
        | instr i =>
          rw [hdecode] at h
          exact .command hpending hready hdecode h
        | rejected e =>
          rw [hdecode] at h
          cases h
          exact .illegal hpending hready hdecode
    | takeResponse =>
      cases h
      exact .response hpending
    | reset =>
      cases h
      exact .reset hpending

/-! ## The invariant -/

theorem good_iff (s : State) :
    Good s ↔ SelectsOneLine s ∧ TablesGood s ∧ WireFrom [] s ∧ s.phase = .ready := by
  constructor
  · rintro ⟨hwf, hshaped, hcor, hrange, ⟨hbrackets, hchain⟩, hfree, hphase⟩
    exact ⟨⟨hwf, hcor⟩, ⟨hshaped, hrange⟩, ⟨hbrackets, hchain, hfree⟩, hphase⟩
  · rintro ⟨⟨hwf, hcor⟩, ⟨hshaped, hrange⟩, ⟨hbrackets, hchain, hfree⟩, hphase⟩
    exact ⟨hwf, hshaped, hcor, hrange, ⟨hbrackets, hchain⟩, hfree, hphase⟩

/-- The ports and the tables of a good state are all that its goodness depends on, with the
phase. -/
theorem good_of_same {s t : State} (h : Good s) (hports : SamePorts s t) (htables : TablesGood t)
    (hphase : t.phase = .ready) : Good t := by
  obtain ⟨hline, -, hwire, -⟩ := (good_iff s).1 h
  exact (good_iff t).2 ⟨portInvariant_selectsOneLine.ofSamePorts hline hports, htables,
    hwire.ofSamePorts hports, hphase⟩

/-- A command that completes ends in a good state, when but for the phase it began in one. -/
theorem good_of_exec {i : Instr} {s t : State} (hexec : exec i s = .next t)
    (hline : SelectsOneLine s) (htables : TablesGood s) (hwire : WireFrom [] s) : Good t := by
  have hline' := portInvariant_selectsOneLine.exec hline hexec
  have hwire' := portInvariant_wireFrom.exec hwire hexec
  obtain ⟨st, r, rfl⟩ := exec_responds hexec
  exact (good_iff _).2 ⟨hline', htables.work i, hwire', rfl⟩

/-- INIT ends in a good state wherever the wire is in order (70_reset_and_hazards R342). -/
theorem good_initSequence {s : State} (hwf : s.cfg.wellFormed = true) (hwire : WireFrom [] s) :
    Good (initSequence s) :=
  (good_iff _).2 ⟨selectsOneLine_initSequence s hwf, (tablesCleared_initSequence s).good,
    hwire.initSequence, rfl⟩

/-- With the bus free no bracket is open for a reset to close (70_reset_and_hazards R353). -/
theorem enterReset_of_free {s : State} (h : s.busHeld = false) :
    enterReset s = { s with rspValid := false } := by
  simp [enterReset, h]

/-- Settles O46: by the ways a step goes on. -/
theorem everyStepKeepsTheStateGood : Obligations.EveryStepKeepsTheStateGood := by
  unfold Obligations.EveryStepKeepsTheStateGood
  intro s t hgood hstep
  obtain ⟨hline, htables, hwire, hphase⟩ := (good_iff s).1 hgood
  cases stepsTo_of_step hstep with
  | idle _ => exact hgood
  | command _ _ _ hexec => exact good_of_exec hexec hline htables (hwire.ofSamePorts {})
  | illegal _ _ _ => exact good_of_same hgood {} htables rfl
  | response _ =>
    unfold takeResponse
    split
    · exact good_of_same hgood {} htables rfl
    · exact good_of_same hgood {} htables hphase
  | @reset rest _ =>
    rw [resetPulse, enterReset_of_free (s := { s with pending := rest }) hwire.free]
    exact good_initSequence hline.1 (hwire.ofSamePorts {})

end Sys2Proof.Machine
end

section
/-! PROOFS. The state after INIT, whatever the parameters and the answers of the SPI port: its
values as the buffer space shows them, and that it is good (spec 10_state R48,
70_reset_and_hazards R342). -/

namespace Sys2Proof.Machine

/-! ## Rows of the buffer space (20_memory R79) -/

theorem memRead_chbuf {a : Nat} (s : State) (ha : a < 8) : memRead a s = some (s.chbuf.getD a 0) :=
  if_pos (by omega)

theorem memRead_xout {p : Nat} (s : State) (hp : p < s.cfg.devices) :
    memRead (0x0100 + p) s = some (s.xout.getD p 0) := by
  rw [memRead, if_neg (by omega), if_pos (by omega), Nat.add_sub_cancel_left]

theorem memRead_yout {p : Nat} (s : State) (hmax : s.cfg.devices ≤ 255) (hp : p < s.cfg.devices) :
    memRead (0x0200 + p) s = some (s.yout.getD p 0) := by
  rw [memRead, if_neg (by omega), if_neg (by omega), if_pos (by omega), Nat.add_sub_cancel_left]

theorem memRead_rawbuf {p c : Nat} (s : State) (hmax : s.cfg.devices ≤ 255)
    (hch : s.cfg.channels ≤ 8) (hp : p < s.cfg.devices) (hc : c < s.cfg.channels) :
    memRead (0x1000 + 8 * p + c) s = some (cell 0 s.rawbuf p c) := by
  have hrow : (0x1000 + 8 * p + c - 0x1000) / 8 = p := by omega
  have hcol : (0x1000 + 8 * p + c - 0x1000) % 8 = c := by omega
  have hchain : chainWords s ≤ 16 := by
    have hlines : s.lines = s.cfg.devices := rfl
    unfold chainWords
    omega
  rw [memRead, hrow, hcol, if_neg (by omega), if_neg (by omega), if_neg (by omega),
    if_neg (by omega), if_neg (by omega), if_neg (by omega), if_pos (by omega)]

theorem getD_replicate_self {α : Type} (n i : Nat) (x : α) : (List.replicate n x).getD i x = x := by
  rw [List.getD_eq_getElem?_getD, List.getElem?_getD_replicate_default_eq]

/-! ## The calibration's means (43_sensor_array R241) -/

theorem calSum_le (k : Config) (byte : Nat → Byte) (p c : Nat) :
    calSum k byte p c ≤ k.calN * 4095 := by
  have hsum := List.sum_le_card_nsmul ((List.range k.calN).map fun s =>
    (readingOf byte ((s * k.devices + p) * k.channels + c)).toNat) 4095 ?_
  · simpa [calSum] using hsum
  · intro x hx
    obtain ⟨j, -, rfl⟩ := List.mem_map.1 hx
    exact isReading_adcDecode _ _

theorem cell_range {α : Type} (f : Nat → Nat → α) (x : α) {rows cols p c : Nat} (hp : p < rows)
    (hc : c < cols) :
    cell x ((List.range rows).map fun p => (List.range cols).map (f p)) p c = f p c := by
  simp [cell, List.getD_eq_getElem?_getD, hp, hc]

/-- A mean of readings fits the 12 bits of a baseline. -/
theorem baseAt_ready (k : Config) (byte : Nat → Byte) {p c : Nat} (hp : p < k.devices)
    (hc : c < k.channels) :
    ((State.ready k byte).baseAt p c).toNat = calSum k byte p c / k.calN := by
  have hmean : calSum k byte p c / k.calN ≤ 4095 := Nat.div_le_of_le_mul (calSum_le k byte p c)
  have hcell : (State.ready k byte).baseAt p c = BitVec.ofNat 12 (calSum k byte p c / k.calN) :=
    cell_range (fun p c => BitVec.ofNat 12 (calSum k byte p c / k.calN)) 0 hp hc
  rw [hcell, BitVec.toNat_ofNat, Nat.mod_eq_of_lt (by omega)]

/-! ## The values of 10_state R48 -/

theorem ready_cur (k : Config) (byte : Nat → Byte) (hmax : k.devices ≤ 255) :
    (State.ready k byte).cur.toNat = k.devices := by
  rw [State.ready, BitVec.toNat_ofNat, Nat.mod_eq_of_lt (by omega)]

theorem selectsOneLine_ready (k : Config) (byte : Nat → Byte) (hwf : k.wellFormed = true) :
    SelectsOneLine (State.ready k byte) := by
  obtain ⟨-, hmax, -⟩ := (config_wellFormed_iff k).1 hwf
  have hcur := ready_cur k byte hmax
  refine ⟨hwf, hcur.le, ?_⟩
  rw [hcur]
  rfl

theorem tablesCleared_ready (k : Config) (byte : Nat → Byte) :
    TablesCleared (State.ready k byte) where
  mode := rfl
  base := hasShape_range _ _ _
  acc := hasShape_range _ _ _
  chbuf := rfl
  rawbuf := rfl
  xout := rfl
  yout := rfl

section
variable {s : State}

theorem TablesCleared.memRead_chbuf (h : TablesCleared s) {a : Nat} (ha : a < 8) :
    memRead a s = some 0 := by
  rw [Machine.memRead_chbuf s ha, h.chbuf, getD_replicate_self]

theorem TablesCleared.memRead_xout (h : TablesCleared s) {p : Nat} (hp : p < s.cfg.devices) :
    memRead (0x0100 + p) s = some 0 := by
  rw [Machine.memRead_xout s hp, h.xout, getD_replicate_self]

theorem TablesCleared.memRead_yout (h : TablesCleared s) (hmax : s.cfg.devices ≤ 255) {p : Nat}
    (hp : p < s.cfg.devices) : memRead (0x0200 + p) s = some 0 := by
  rw [Machine.memRead_yout s hmax hp, h.yout, getD_replicate_self]

theorem TablesCleared.memRead_rawbuf (h : TablesCleared s) (hmax : s.cfg.devices ≤ 255)
    (hch : s.cfg.channels ≤ 8) {p c : Nat} (hp : p < s.cfg.devices) (hc : c < s.cfg.channels) :
    memRead (0x1000 + 8 * p + c) s = some 0 := by
  have hrow : (List.replicate s.cfg.devices (List.replicate s.cfg.channels (0 : Half))).getD p [] =
      List.replicate s.cfg.channels 0 := List.getD_replicate _ hp
  rw [Machine.memRead_rawbuf s hmax hch hp hc, h.rawbuf, cell, hrow, getD_replicate_self]

end

/-- Settles O52: the chain's values are those of the correspondence, the buffers' those of cleared
tables. -/
theorem resetValuesOfTheSpec : Obligations.ResetValuesOfTheSpec := by
  unfold Obligations.ResetValuesOfTheSpec
  intro k byte hwf
  obtain ⟨hpos, hmax, -, hch, -⟩ := (config_wellFormed_iff k).1 hwf
  have hcur := ready_cur k byte hmax
  have hcor := (selectsOneLine_ready k byte hwf).2
  have hcleared := tablesCleared_ready k byte
  refine ⟨hcur, ?_, ?_, fun p c hp hc => baseAt_ready k byte hp hc,
    fun c hc => hcleared.memRead_chbuf hc, fun p c hp hc => ⟨hcleared.memRead_rawbuf hmax hch hp hc,
      hcleared.memRead_xout hp, hcleared.memRead_yout hmax hp⟩, rfl, rfl, rfl, rfl, rfl⟩
  · intro i hi
    rw [hcor.line hi, hcur]
    exact decide_eq_decide.2 (by omega)
  · intro c _
    rw [State.modeAt, hcleared.mode, getD_replicate_self]

/-! ## INIT's events leave the wire in order -/

/-- A block whose trace begins, with line `c` selected. -/
def wireStart (k : Config) (c : Nat) : State :=
  { State.powerUp k with sr := chainSelecting k.devices c, cur := BitVec.ofNat 8 c }

theorem wireFrom_wireStart (k : Config) (c : Nat) :
    WireFrom (chainSelecting k.devices c) (wireStart k c) := ⟨rfl, rfl, rfl⟩

/-- Some events, begun with line `c` selected, close their brackets and end with line `t`
selected. -/
def Reselects (n c t : Nat) (es : List Event) : Prop :=
  WellBracketed es ∧ replayChain n (chainSelecting n c) es = chainSelecting n t

theorem Reselects.append {n c t u : Nat} {es fs : List Event} (hes : Reselects n c t es)
    (hfs : Reselects n t u fs) : Reselects n c u (es ++ fs) := by
  obtain ⟨hes, hesChain⟩ := hes
  obtain ⟨hfs, hfsChain⟩ := hfs
  refine ⟨?_, ?_⟩
  · rw [WellBracketed, bracketRun_append, hes]
    exact hfs
  · rw [replayChain_append, hesChain, hfsChain]

/-- The events of a selection are those that SELECT_CORE emits, which keeps the wire in order
(40_selector R145). -/
theorem reselects_selectEvents {k : Config} {c t : Nat} (hmax : k.devices ≤ 255)
    (hc : c ≤ k.devices) (ht : validDevice k t = true) :
    Reselects k.devices c t (selectEvents k.devices c t) := by
  have hcur : (wireStart k c).cur.toNat = c := by
    rw [wireStart, BitVec.toNat_ofNat, Nat.mod_eq_of_lt (by omega)]
  have hcor : Corresponds (wireStart k c) := by
    unfold Corresponds
    rw [hcur]
    exact ⟨hc, rfl⟩
  have hwire := (wireFrom_wireStart k c).selectCore t
  rw [selectCore_valid t (wireStart k c) ht hmax hcor, hcur] at hwire
  exact ⟨hwire.brackets, hwire.chain⟩

theorem reselects_frameEvents (n t : Nat) (sgl : Bool) (ch : Nat) (r1 r2 r3 : Byte) :
    Reselects n t t (frameEvents (adcWord sgl ch) r1 r2 r3) :=
  ⟨wellBracketed_frameEvents sgl ch r1 r2 r3, rfl⟩

theorem validDevice_calDevice {k : Config} (hpos : 1 ≤ k.devices) (j : Nat) :
    validDevice k (calDevice k j) = true := by
  have hlt : j / k.channels % k.devices < k.devices := Nat.mod_lt _ hpos
  rw [validDevice_iff, calDevice]
  omega

theorem calCurBefore_le {k : Config} (hpos : 1 ≤ k.devices) (j : Nat) :
    calCurBefore k j ≤ k.devices := by
  unfold calCurBefore
  split
  · exact Nat.zero_le _
  · exact ((validDevice_iff k _).1 (validDevice_calDevice hpos (j - 1))).2

/-- Each calibration read finds the device of the read before it selected. -/
theorem reselects_calReads {k : Config} (byte : Nat → Byte) (hpos : 1 ≤ k.devices)
    (hmax : k.devices ≤ 255) (n : Nat) :
    Reselects k.devices 0 (calCurBefore k n)
      ((List.range n).flatMap (calReadEvents k byte)) := by
  induction n with
  | zero => exact ⟨rfl, rfl⟩
  | succ n ih =>
    have hread : Reselects k.devices (calCurBefore k n) (calCurBefore k (n + 1))
        (calReadEvents k byte n) :=
      (reselects_selectEvents hmax (calCurBefore_le hpos n) (validDevice_calDevice hpos n)).append
        (reselects_frameEvents _ _ _ _ _ _ _)
    rw [List.range_succ, List.flatMap_append, List.flatMap_singleton]
    exact ih.append hread

/-- Calibration ends at the last device (43_sensor_array R241). -/
theorem calCurBefore_calReads {k : Config} (hcal : 1 ≤ k.calN) (hpos : 1 ≤ k.devices)
    (hch : 1 ≤ k.channels) : calCurBefore k (calReads k) = k.devices := by
  have hpasses : 1 ≤ k.calN * k.devices := Nat.mul_pos hcal hpos
  have hreads : calReads k ≠ 0 := Nat.ne_of_gt (Nat.mul_pos hpasses hch)
  have hdiv : (calReads k - 1) / k.channels = k.calN * k.devices - 1 := by
    rw [calReads, Nat.mul_comm, Nat.mul_sub_div 0 _ _ (Nat.mul_pos hch hpasses), Nat.zero_div]
  have hmod : (k.calN * k.devices - 1) % k.devices = k.devices - 1 := by
    rw [Nat.mul_comm, Nat.mul_sub_mod (Nat.mul_pos hpos hcal), Nat.zero_mod]
  rw [calCurBefore, if_neg hreads, calDevice, hdiv, hmod, Nat.sub_add_cancel hpos]

/-- The initial fill deselects every line (70_reset_and_hazards R345). -/
theorem fill_deselects_every_line {k : Config} (hpos : 1 ≤ k.devices) :
    WellBracketed (List.replicate k.devices (.srShift true)) ∧
      replayChain k.devices [] (List.replicate k.devices (.srShift true)) =
        chainSelecting k.devices 0 := by
  have hwire : WireFrom [] (srSetAll true { State.powerUp k with sr := [] }) :=
    WireFrom.srSetAll true _ ⟨rfl, rfl, rfl⟩
  rw [srSetAll_eq] at hwire
  have hchain := hwire.chain.trans (if_neg (Nat.ne_of_gt hpos))
  exact ⟨hwire.brackets, hchain.trans (chainSelecting_zero _).symm⟩

theorem wireFrom_ready (k : Config) (byte : Nat → Byte) (hwf : k.wellFormed = true) :
    WireFrom [] (State.ready k byte) := by
  obtain ⟨hpos, hmax, hch, -, hcal, -⟩ := (config_wellFormed_iff k).1 hwf
  obtain ⟨hfill, hfillChain⟩ := fill_deselects_every_line hpos
  obtain ⟨hreads, hreadsChain⟩ := reselects_calReads byte hpos hmax (calReads k)
  rw [calCurBefore_calReads hcal hpos (by omega)] at hreadsChain
  refine ⟨?_, ?_, rfl⟩
  · rw [WellBracketed, State.ready, initEvents, bracketRun_append, hfill]
    exact hreads
  · simp only [State.ready, initEvents]
    rw [replayChain_append, hfillChain, hreadsChain]

/-- The state after INIT is good, whatever the parameters and the answers. -/
theorem good_ready (k : Config) (byte : Nat → Byte) (hwf : k.wellFormed = true) :
    Good (State.ready k byte) :=
  (good_iff _).2 ⟨selectsOneLine_ready k byte hwf, (tablesCleared_ready k byte).good,
    wireFrom_ready k byte hwf, rfl⟩

/-- Settles O48, for the parameters and answers of `State.reset`. -/
theorem theResetStateIsGood : Obligations.TheResetStateIsGood := by
  unfold Obligations.TheResetStateIsGood
  exact good_ready Config.shown Config.spiByte (by decide)

end Sys2Proof.Machine
end

section
/-! PROOFS. READ_BUF at every mapped address: the rows of the buffer space that no proof has needed so
far, the bits of a chain word, and the command's answer (spec 20_memory R79, 44_buffer_access R280). -/

namespace Sys2Proof.Machine

/-! ## The bits of a chain word -/

theorem packBits_lt (bit : Nat → Bool) (n : Nat) : packBits bit n < 2 ^ n := by
  induction n with
  | zero => exact Nat.one_pos
  | succ n ih => rw [packBits]; split <;> omega

/-- Packing stores one bit per place. -/
theorem testBit_packBits (bit : Nat → Bool) (n i : Nat) :
    (packBits bit n).testBit i = (decide (i < n) && bit i) := by
  induction n with
  | zero => simp [packBits]
  | succ n ih =>
    have hpack : packBits bit (n + 1) = 2 ^ n * (bit n).toNat + packBits bit n := by
      cases hbit : bit n <;> simp [packBits, hbit, Nat.add_comm]
    rw [hpack, Nat.testBit_two_pow_mul_add _ (packBits_lt bit n), ih]
    rcases Nat.lt_trichotomy i n with hlow | rfl | hhigh
    · simp [hlow, Nat.lt_succ_of_lt hlow]
    · rw [if_neg (Nat.lt_irrefl i), Nat.testBit_bool_toNat]
      simp
    · have hpast : i - n ≠ 0 := by omega
      rw [if_neg hhigh.not_gt, Nat.testBit_bool_toNat]
      simp [hpast, hhigh.not_ge]

/-- Bit i of chain word w is stage 16w + i of the chain, if that is one of its N stages. -/
theorem getLsbD_chainWord (s : State) (w i : Nat) :
    (chainWord s w).getLsbD i =
      (decide (i < 16 ∧ 16 * w + i < s.cfg.devices) && s.sr.getD (16 * w + i) false) := by
  have hlines : s.lines = s.cfg.devices := rfl
  rw [chainWord, BitVec.getLsbD_ofNat, testBit_packBits, hlines, Bool.decide_and]
  cases decide (i < 16) <;> simp

theorem getLsbD_zext32 (v : Half) (i : Nat) : (zext32 v).getLsbD i = v.getLsbD i := by
  rw [zext32, BitVec.getLsbD_setWidth]
  by_cases hi : i < 32
  · simp [hi]
  · simp [hi, BitVec.getLsbD_of_ge v i (by omega)]

/-! ## The remaining rows of the buffer space -/

/-- Chain word w is mapped when it holds a stage. -/
theorem lt_chainWords_iff (s : State) (w : Nat) : w < chainWords s ↔ 16 * w < s.cfg.devices := by
  have hlines : s.lines = s.cfg.devices := rfl
  rw [chainWords, hlines]
  omega

section
variable {s : State} (hmax : s.cfg.devices ≤ 255)
include hmax

theorem memRead_mode {c : Nat} (hc : c ≤ 7) :
    memRead (0x0300 + c) s = some (modeWord (s.modeAt c)) := by
  rw [memRead, if_neg (by omega), if_neg (by omega), if_neg (by omega), if_pos (by omega),
    Nat.add_sub_cancel_left]

theorem memRead_cur : memRead 0x0400 s = some (s.cur.zeroExtend 16) := by
  rw [memRead, if_neg (by omega), if_neg (by omega), if_neg (by omega), if_neg (by omega),
    if_pos rfl]

theorem memRead_chain {w : Nat} (hw : 16 * w < s.cfg.devices) :
    memRead (0x0410 + w) s = some (chainWord s w) := by
  have hmapped : w < chainWords s := (lt_chainWords_iff s w).2 hw
  rw [memRead, if_neg (by omega), if_neg (by omega), if_neg (by omega), if_neg (by omega),
    if_neg (by omega), if_pos (by omega), Nat.add_sub_cancel_left]

theorem memRead_base (hch : s.cfg.channels ≤ 8) {p c : Nat} (hp : p < s.cfg.devices)
    (hc : c < s.cfg.channels) :
    memRead (0x2000 + 8 * p + c) s = some ((s.baseAt p c).zeroExtend 16) := by
  have hrow : (0x2000 + 8 * p + c - 0x2000) / 8 = p := by omega
  have hcol : (0x2000 + 8 * p + c - 0x2000) % 8 = c := by omega
  have hchain : ¬ 16 < chainWords s := by
    rw [lt_chainWords_iff]
    omega
  rw [memRead, hrow, hcol, if_neg (by omega), if_neg (by omega), if_neg (by omega),
    if_neg (by omega), if_neg (by omega), if_neg (by omega), if_neg (by omega), if_pos (by omega)]

end

/-! ## READ_BUF -/

/-- READ_BUF of a mapped address answers OK with the word there. -/
theorem exec_readBuf_of_mapped {a : Nat} {v : Half} {s : State} (h : memRead a s = some v) :
    exec (.readBuf a) s = .next (s.responded .ok (zext32 v)) := by
  have hexec : exec (.readBuf a) s = execReadBuf a s := rfl
  rw [hexec, execReadBuf, h]
  rfl

theorem zext32_modeWord (m : Mode) : zext32 (modeWord m) = if m = .single then 1 else 0 := by
  cases m <;> rfl

/-- A word extended to 16 bits on its way into the buffer space is extended to 32 in the result. -/
theorem zext32_zeroExtend {n : Nat} (hn : n ≤ 16) (v : BitVec n) :
    zext32 (v.zeroExtend 16) = v.zeroExtend 32 :=
  BitVec.setWidth_setWidth (by omega)

/-- Settles O40: each row of the map is what `memRead` gives there. -/
theorem readBufReturnsTheMappedWord : Obligations.ReadBufReturnsTheMappedWord := by
  unfold Obligations.ReadBufReturnsTheMappedWord
  intro s hwf
  obtain ⟨-, hmax, -, hch, -⟩ := (config_wellFormed_iff s.cfg).1 hwf
  refine ⟨fun c hc => ?chbuf, fun p hp => ⟨?xout, ?yout⟩, fun c hc => ?mode, ?cur,
    fun w hw => ⟨zext32 (chainWord s w), ?chain, fun i => ?bits⟩,
    fun p c hp hc => ⟨?rawbuf, ?base⟩⟩
  case chbuf =>
    rw [Nat.zero_add]
    exact exec_readBuf_of_mapped (memRead_chbuf s (Nat.lt_succ_of_le hc))
  case xout => exact exec_readBuf_of_mapped (memRead_xout s hp)
  case yout => exact exec_readBuf_of_mapped (memRead_yout s hmax hp)
  case mode => rw [exec_readBuf_of_mapped (memRead_mode hmax hc), zext32_modeWord]
  case cur => rw [exec_readBuf_of_mapped (memRead_cur hmax), zext32_zeroExtend (by decide)]
  case chain => exact exec_readBuf_of_mapped (memRead_chain hmax hw)
  case bits => rw [getLsbD_zext32, getLsbD_chainWord]
  case rawbuf => exact exec_readBuf_of_mapped (memRead_rawbuf s hmax hch hp hc)
  case base =>
    rw [exec_readBuf_of_mapped (memRead_base hmax hch hp hc), zext32_zeroExtend (by decide)]
    rfl

end Sys2Proof.Machine
end

section
/-! PROOFS. The two instruction formats: when a word meets its row of the table, what the decoder
answers, and that encoding and decoding invert each other (spec 30_encoding R101 to R111). -/

namespace Sys2Proof

open Laws

/-! ## Agreement of two words bit field by bit field -/

/-- Two words are equal that agree under a mask and in fields that cover the rest. -/
theorem eq_of_agree_on_fields {width : Nat} {w w' mask : BitVec width} (fields : List (Nat × Nat))
    (hcover : ∀ i < width, mask.getLsbD i = true ∨ ∃ f ∈ fields, f.1 ≤ i ∧ i < f.1 + f.2)
    (hmask : w &&& mask = w' &&& mask)
    (hfields : ∀ f ∈ fields, (w.extractLsb' f.1 f.2).toNat = (w'.extractLsb' f.1 f.2).toNat) :
    w = w' := by
  apply BitVec.eq_of_getLsbD_eq
  intro i hi
  rcases hcover i hi with hbit | ⟨f, hf, hlo, hhi⟩
  · have hand := congrArg (fun v => BitVec.getLsbD v i) hmask
    simpa [hbit] using hand
  · have hfield := congrArg (fun v => BitVec.getLsbD v (i - f.1))
      (BitVec.eq_of_toNat_eq (hfields f hf))
    simpa [show i - f.1 < f.2 by omega, Nat.add_sub_cancel' hlo] using hfield

theorem extractLsb'_one_eq_ofBool {width : Nat} (w : BitVec width) (lo : Nat) :
    w.extractLsb' lo 1 = BitVec.ofBool (w.getLsbD lo) := by
  apply BitVec.eq_of_getLsbD_eq
  intro i hi
  obtain rfl : i = 0 := by omega
  simp

/-! ## The opcode of a word -/

/-- The bits of OP (30_encoding R101). -/
def opMask : Command := 0xF000000000000000

theorem opField_eq_div (w : Command) : opField w = w.toNat / 2 ^ 60 := by
  have hlt := w.isLt
  simp only [opField, BitVec.extractLsb'_toNat, Nat.shiftRight_eq_div_pow]
  omega

theorem opField_and_opMask (w : Command) : opField (w &&& opMask) = opField w := by
  have hmask : opMask.extractLsb' 60 4 = BitVec.allOnes 4 := by decide
  rw [opField, BitVec.extractLsb'_and, hmask, BitVec.and_allOnes, opField]

/-- Under the mask of OP a word is the word of its opcode alone. -/
theorem and_opMask_eq_of_opField_eq {w w' : Command} (h : opField w = opField w') :
    w &&& opMask = w' &&& opMask := by
  refine eq_of_agree_on_fields (mask := ~~~opMask) [(60, 4)] (by decide) ?_ ?_
  · have hempty : opMask &&& ~~~opMask = 0 := by decide
    simp only [BitVec.and_assoc, hempty, BitVec.ofNat_eq_ofNat, BitVec.and_zero]
  · rw [List.forall_mem_singleton]
    exact (opField_and_opMask w).trans (h.trans (opField_and_opMask w').symm)

/-! ## The rows of the table (30_encoding R104) -/

/-- Each row's mask is OP and the bits its command does not use, and it asks for an assigned opcode
and zeros elsewhere. -/
theorem hostRows_layout : ∀ r ∈ hostRows,
    r.mask = opMask ||| unusedBits (opField r.matchBits) ∧ r.matchBits &&& opMask = r.matchBits ∧
      r.matchBits &&& unusedBits (opField r.matchBits) = 0 ∧
      assignedOpcode (opField r.matchBits) = true := by
  decide

/-- Every assigned opcode has a row. -/
theorem exists_hostRow_of_opcode {op : Nat} (h : assignedOpcode op = true) :
    ∃ r ∈ hostRows, opField r.matchBits = op := by
  have all_rows : ∀ op ≤ 10, 1 ≤ op → ∃ r ∈ hostRows, opField r.matchBits = op := by decide
  obtain ⟨hpos, hmax⟩ : 1 ≤ op ∧ op ≤ 10 := by simpa [assignedOpcode] using h
  exact all_rows op hmax hpos

/-- A word meets a row exactly when it has the row's opcode and leaves the unused bits zero. -/
theorem row_matches_iff {r : HostRow} (hr : r ∈ hostRows) (w : Command) :
    w &&& r.mask = r.matchBits ↔
      opField w = opField r.matchBits ∧ w &&& unusedBits (opField r.matchBits) = 0 := by
  obtain ⟨hmask, hmatch, hzero, -⟩ := hostRows_layout r hr
  have absorb : ∀ a b : Command, (a ||| b) &&& a = a := fun a b => by
    rw [BitVec.and_or_distrib_right, BitVec.and_self]
    ext i
    simp
  constructor
  · intro h
    constructor
    · rw [← opField_and_opMask w, ← h, ← opField_and_opMask (w &&& r.mask), hmask,
        BitVec.and_assoc, absorb]
    · have hunused : r.mask &&& unusedBits (opField r.matchBits) =
          unusedBits (opField r.matchBits) := by rw [hmask, BitVec.or_comm, absorb]
      rw [← hunused, ← BitVec.and_assoc, h, hzero]
  · rintro ⟨hop, hunused⟩
    rw [hmask, BitVec.and_or_distrib_left, and_opMask_eq_of_opField_eq hop, hmatch, hunused]
    exact BitVec.or_zero

/-- At most one row matches a word (30_encoding R105). -/
theorem hostRow_unique {r r' : HostRow} {w : Command} (hr : r ∈ hostRows) (hr' : r' ∈ hostRows)
    (h : w &&& r.mask = r.matchBits) (h' : w &&& r'.mask = r'.matchBits) : r = r' := by
  have hop : opField r.matchBits = opField r'.matchBits :=
    ((row_matches_iff hr w).1 h).1.symm.trans ((row_matches_iff hr' w).1 h').1
  have distinct_opcodes : (hostRows.map fun r => opField r.matchBits).Nodup := by decide
  exact List.inj_on_of_nodup_map distinct_opcodes hr hr' hop

/-! ## What the decoder answers -/

theorem hostRowOf_eq_some_iff {w : Command} {r : HostRow} :
    hostRowOf w = some r ↔ r ∈ hostRows ∧ w &&& r.mask = r.matchBits := by
  have selected : ∀ {r}, hostRowOf w = some r → r ∈ hostRows ∧ w &&& r.mask = r.matchBits :=
    fun h => ⟨List.mem_of_find?_eq_some h, by simpa using List.find?_some h⟩
  refine ⟨selected, fun ⟨hr, hmatch⟩ => ?_⟩
  cases hrow : hostRowOf w with
  | none => exact absurd hmatch (by simpa using List.find?_eq_none.1 hrow r hr)
  | some r' =>
    obtain ⟨hr', hmatch'⟩ := selected hrow
    rw [hostRow_unique hr hr' hmatch hmatch']

/-- A host word decodes to what the row that it meets reads from it. -/
theorem decodeHost_eq_instr_iff {w : Command} {i : Instr} :
    decodeHost w = .instr i ↔ ∃ r ∈ hostRows, w &&& r.mask = r.matchBits ∧ r.read w = i := by
  constructor
  · intro h
    cases hrow : hostRowOf w with
    | none => simp [decodeHost, hrow] at h
    | some r =>
      obtain ⟨hr, hmatch⟩ := hostRowOf_eq_some_iff.1 hrow
      exact ⟨r, hr, hmatch, by simpa [decodeHost, hrow] using h⟩
  · rintro ⟨r, hr, hmatch, rfl⟩
    rw [decodeHost, hostRowOf_eq_some_iff.2 ⟨hr, hmatch⟩]

/-- A host word is refused when it meets no row. -/
theorem decodeHost_rejected_iff (w : Command) :
    (∃ e, decodeHost w = .rejected e) ↔ ∀ r ∈ hostRows, w &&& r.mask ≠ r.matchBits := by
  constructor
  · rintro ⟨e, he⟩ r hr hmatch
    have hinstr := decodeHost_eq_instr_iff.2 ⟨r, hr, hmatch, rfl⟩
    cases he.symm.trans hinstr
  · intro hnone
    cases hdecode : decodeHost w with
    | rejected e => exact ⟨e, rfl⟩
    | instr i =>
      obtain ⟨r, hr, hmatch, -⟩ := decodeHost_eq_instr_iff.1 hdecode
      exact absurd hmatch (hnone r hr)

/-- An illegal word is one whose opcode is not assigned, or that sets a bit its command does not
use. -/
theorem illegalWord_iff (w : Command) :
    IllegalWord w ↔ assignedOpcode (opField w) = false ∨ w &&& unusedBits (opField w) ≠ 0 := by
  have hop : assignedOpcode (opField w) = false ↔ opField w = 0 ∨ 0xB ≤ opField w := by
    simp only [assignedOpcode, decide_eq_false_iff_not]
    omega
  rw [hop, or_assoc, IllegalWord, opField_eq_div]

/-- Settles O4: a word of an assigned opcode meets that opcode's row or sets one of its unused
bits. -/
theorem exactlyTheIllegalWordsAreRefused : Obligations.ExactlyTheIllegalWordsAreRefused := by
  unfold Obligations.ExactlyTheIllegalWordsAreRefused
  intro w
  refine ⟨?_, fun r hr r' hr' h h' => by rw [hostRow_unique hr hr' h h']⟩
  rw [decodeHost_rejected_iff, illegalWord_iff]
  constructor
  · intro hnone
    rw [or_iff_not_imp_left, Bool.not_eq_false]
    intro hassigned hunused
    obtain ⟨r, hr, hop⟩ := exists_hostRow_of_opcode hassigned
    exact hnone r hr ((row_matches_iff hr w).2 ⟨hop.symm, by rwa [hop]⟩)
  · intro hillegal r hr hmatch
    obtain ⟨hop, hunused⟩ := (row_matches_iff hr w).1 hmatch
    obtain ⟨-, -, -, hassigned⟩ := hostRows_layout r hr
    rw [hop] at hillegal
    rcases hillegal with hnot | hset
    · exact absurd hassigned (by simp [hnot])
    · exact hset hunused

/-! ## Decoding an encoded instruction -/

theorem fitsByte_iff {n : Nat} : fitsByte n = true ↔ n < 256 := decide_eq_true_iff

theorem fitsHalf_iff {n : Nat} : fitsHalf n = true ↔ n < 65536 := decide_eq_true_iff

theorem fitsPort_iff {n : Nat} : fitsPort n = true ↔ n < 8 := decide_eq_true_iff

section
variable {op dev chan vref raw : Nat} {b : Bool}

theorem devField_of_fits (h : fitsByte dev = true) :
    devField (hostWord op dev chan b vref raw) = dev := by
  rw [devField_hostWord, Nat.mod_eq_of_lt (fitsByte_iff.1 h)]

theorem chanField_of_fits (h : fitsByte chan = true) :
    chanField (hostWord op dev chan b vref raw) = chan := by
  rw [chanField_hostWord, Nat.mod_eq_of_lt (fitsByte_iff.1 h)]

theorem vrefField_of_fits (h : fitsHalf vref = true) :
    vrefField (hostWord op dev chan b vref raw) = vref := by
  rw [vrefField_hostWord, Nat.mod_eq_of_lt (fitsHalf_iff.1 h)]

theorem rawField_of_fits (h : fitsHalf raw = true) :
    rawField (hostWord op dev chan b vref raw) = raw := by
  rw [rawField_hostWord, Nat.mod_eq_of_lt (fitsHalf_iff.1 h)]

theorem modeBit_hostWord : (hostWord op dev chan b vref raw).getLsbD 43 = b := by
  have hplaced : BitVec.ofNat 1 b.toNat = BitVec.ofBool b := by cases b <;> rfl
  have hfield : (hostWord op dev chan b vref raw).extractLsb' 43 1 = BitVec.ofBool b := by
    simp [hostWord, BitVec.extractLsb'_or, place_extract_same, place_extract_other, hplaced]
  simpa using congrArg (fun v => BitVec.getLsbD v 0) hfield

end

theorem portField_of_fits {sgl : Bool} {ch : Nat} (h : fitsPort ch = true) :
    portField (adcWord sgl ch) = ch := by
  rw [portField_adcWord, Nat.mod_eq_of_lt (fitsPort_iff.1 h)]

/-- The mode read from a word is the one whose bit stands in B (30_encoding R101). -/
theorem isSingle_modeField (w : Command) : (modeField w).isSingle = w.getLsbD 43 := by
  unfold modeField
  cases w.getLsbD 43 <;> rfl

theorem isSingle_injective : Function.Injective Mode.isSingle := by
  intro m m'
  cases m <;> cases m' <;> simp [Mode.isSingle]

theorem modeField_hostWord (op dev chan vref raw : Nat) (m : Mode) :
    modeField (hostWord op dev chan m.isSingle vref raw) = m :=
  isSingle_injective ((isSingle_modeField _).trans modeBit_hostWord)

/-- A word that meets row `k` decodes to what that row reads. -/
theorem decodeHost_of_row (k : Nat) (hk : k < hostRows.length) {w : Command} {i : Instr}
    (hmatch : w &&& hostRows[k].mask = hostRows[k].matchBits) (hread : hostRows[k].read w = i) :
    decodeHost w = .instr i :=
  decodeHost_eq_instr_iff.2 ⟨_, List.getElem_mem hk, hmatch, hread⟩

theorem decodeAdc_single {w : Half} (h : w &&& adcMask = 0x0600) :
    decodeAdc w = .instr (.adcCmdSingle (portField w)) := if_pos h

theorem decodeAdc_diff {w : Half} (h : w &&& adcMask = 0x0400) :
    decodeAdc w = .instr (.adcCmdDiff (portField w)) := by
  rw [decodeAdc, h, if_neg (by decide), if_pos rfl]

/-- Settles O1: the word of each instruction meets its own row, and its fields are the operands. -/
theorem decodingInvertsEncoding : Obligations.DecodingInvertsEncoding := by
  unfold Obligations.DecodingInvertsEncoding
  intro i hwf
  cases i with
  | select dev =>
    exact decodeHost_of_row 0 (by decide) (MatchesItsRow.select dev)
      (congrArg Instr.select (devField_of_fits hwf))
  | adcRead dev ch =>
    obtain ⟨hdev, hch⟩ := Bool.and_eq_true_iff.1 hwf
    exact decodeHost_of_row 1 (by decide) (MatchesItsRow.adcRead dev ch)
      (congrArg₂ Instr.adcRead (devField_of_fits hdev) (chanField_of_fits hch))
  | adcReadAll dev =>
    exact decodeHost_of_row 2 (by decide) (MatchesItsRow.adcReadAll dev)
      (congrArg Instr.adcReadAll (devField_of_fits hwf))
  | getConfig ch =>
    exact decodeHost_of_row 3 (by decide) (MatchesItsRow.getConfig ch)
      (congrArg Instr.getConfig (chanField_of_fits hwf))
  | setConfig m ch =>
    exact decodeHost_of_row 4 (by decide) (MatchesItsRow.setConfig m ch)
      (congrArg₂ Instr.setConfig (modeField_hostWord _ _ _ _ _ m) (chanField_of_fits hwf))
  | rawToVoltage vref raw =>
    obtain ⟨hvref, hraw⟩ := Bool.and_eq_true_iff.1 hwf
    exact decodeHost_of_row 5 (by decide) (MatchesItsRow.rawToVoltage vref raw)
      (congrArg₂ Instr.rawToVoltage (vrefField_of_fits hvref) (rawField_of_fits hraw))
  | saReadAll => exact decodeHost_of_row 6 (by decide) MatchesItsRow.saReadAll rfl
  | saReadAllRaw => exact decodeHost_of_row 7 (by decide) MatchesItsRow.saReadAllRaw rfl
  | saReadChannel dev ch =>
    obtain ⟨hdev, hch⟩ := Bool.and_eq_true_iff.1 hwf
    exact decodeHost_of_row 8 (by decide) (MatchesItsRow.saReadChannel dev ch)
      (congrArg₂ Instr.saReadChannel (devField_of_fits hdev) (chanField_of_fits hch))
  | readBuf addr =>
    exact decodeHost_of_row 9 (by decide) (MatchesItsRow.readBuf addr)
      (congrArg Instr.readBuf (rawField_of_fits hwf))
  | adcCmdSingle ch =>
    have hdecode := decodeAdc_single (MatchesItsRow.adcCmdSingle ch)
    rwa [portField_of_fits hwf] at hdecode
  | adcCmdDiff ch =>
    have hdecode := decodeAdc_diff (MatchesItsRow.adcCmdDiff ch)
    rwa [portField_of_fits hwf] at hdecode

/-! ## Encoding a decoded instruction -/

theorem fitsByte_devField (w : Command) : fitsByte (devField w) = true :=
  fitsByte_iff.2 (BitVec.isLt _)

theorem fitsByte_chanField (w : Command) : fitsByte (chanField w) = true :=
  fitsByte_iff.2 (BitVec.isLt _)

theorem fitsHalf_vrefField (w : Command) : fitsHalf (vrefField w) = true :=
  fitsHalf_iff.2 (BitVec.isLt _)

theorem fitsHalf_rawField (w : Command) : fitsHalf (rawField w) = true :=
  fitsHalf_iff.2 (BitVec.isLt _)

theorem fitsPort_portField (w : Half) : fitsPort (portField w) = true :=
  fitsPort_iff.2 (BitVec.isLt _)

/-- A word with the mode read from `w` has the bit B of `w`. -/
theorem modeBit_eq (op dev chan vref raw : Nat) (w : Command) :
    ((hostWord op dev chan (modeField w).isSingle vref raw).extractLsb' 43 1).toNat =
      (w.extractLsb' 43 1).toNat := by
  rw [extractLsb'_one_eq_ofBool, extractLsb'_one_eq_ofBool, modeBit_hostWord, isSingle_modeField]

/-- Two words that meet a row are one word, if they agree in its fields. -/
theorem host64_eq_of_row {r : HostRow} {w w' : Command} (hmatch : w &&& r.mask = r.matchBits)
    (fields : List (Nat × Nat))
    (hcover : ∀ i < 64, r.mask.getLsbD i = true ∨ ∃ f ∈ fields, f.1 ≤ i ∧ i < f.1 + f.2)
    (hmatch' : w' &&& r.mask = r.matchBits)
    (hfields : ∀ f ∈ fields, (w'.extractLsb' f.1 f.2).toNat = (w.extractLsb' f.1 f.2).toNat) :
    EncodedWord.host64 w' = .host64 w :=
  congrArg _ (eq_of_agree_on_fields fields hcover (hmatch'.trans hmatch.symm) hfields)

/-- The operands that a row reads from a word that meets it fit, and their instruction's word is
that word, since the two agree under the row's mask and in the row's fields. -/
theorem encode_read {r : HostRow} (hr : r ∈ hostRows) {w : Command}
    (hmatch : w &&& r.mask = r.matchBits) :
    (r.read w).wellFormed = true ∧ encode (r.read w) = .host64 w := by
  have hdev := fitsByte_devField w
  have hchan := fitsByte_chanField w
  have hvref := fitsHalf_vrefField w
  have hraw := fitsHalf_rawField w
  simp only [hostRows, List.mem_cons, List.not_mem_nil, or_false] at hr
  rcases hr with rfl | rfl | rfl | rfl | rfl | rfl | rfl | rfl | rfl | rfl
  · exact ⟨hdev, host64_eq_of_row hmatch [(52, 8)] (by decide) (MatchesItsRow.select _)
      (List.forall_mem_singleton.2 (devField_of_fits hdev))⟩
  · exact ⟨Bool.and_eq_true_iff.2 ⟨hdev, hchan⟩,
      host64_eq_of_row hmatch [(52, 8), (44, 8)] (by decide) (MatchesItsRow.adcRead _ _)
        (List.forall_mem_cons.2
          ⟨devField_of_fits hdev, List.forall_mem_singleton.2 (chanField_of_fits hchan)⟩)⟩
  · exact ⟨hdev, host64_eq_of_row hmatch [(52, 8)] (by decide) (MatchesItsRow.adcReadAll _)
      (List.forall_mem_singleton.2 (devField_of_fits hdev))⟩
  · exact ⟨hchan, host64_eq_of_row hmatch [(44, 8)] (by decide) (MatchesItsRow.getConfig _)
      (List.forall_mem_singleton.2 (chanField_of_fits hchan))⟩
  · exact ⟨hchan,
      host64_eq_of_row hmatch [(43, 1), (44, 8)] (by decide) (MatchesItsRow.setConfig _ _)
      (List.forall_mem_cons.2
        ⟨modeBit_eq _ _ _ _ _ w, List.forall_mem_singleton.2 (chanField_of_fits hchan)⟩)⟩
  · exact ⟨Bool.and_eq_true_iff.2 ⟨hvref, hraw⟩,
      host64_eq_of_row hmatch [(16, 16), (0, 16)] (by decide) (MatchesItsRow.rawToVoltage _ _)
        (List.forall_mem_cons.2
          ⟨vrefField_of_fits hvref, List.forall_mem_singleton.2 (rawField_of_fits hraw)⟩)⟩
  · exact ⟨rfl,
      host64_eq_of_row hmatch [] (by decide) MatchesItsRow.saReadAll (List.forall_mem_nil _)⟩
  · exact ⟨rfl,
      host64_eq_of_row hmatch [] (by decide) MatchesItsRow.saReadAllRaw (List.forall_mem_nil _)⟩
  · exact ⟨Bool.and_eq_true_iff.2 ⟨hdev, hchan⟩,
      host64_eq_of_row hmatch [(52, 8), (44, 8)] (by decide) (MatchesItsRow.saReadChannel _ _)
        (List.forall_mem_cons.2
          ⟨devField_of_fits hdev, List.forall_mem_singleton.2 (chanField_of_fits hchan)⟩)⟩
  · exact ⟨hraw, host64_eq_of_row hmatch [(0, 16)] (by decide) (MatchesItsRow.readBuf _)
      (List.forall_mem_singleton.2 (rawField_of_fits hraw))⟩

/-- The word of the channel read from an ADC command word is that word. -/
theorem adcWord_portField {w : Half} {sgl : Bool}
    (h : w &&& adcMask = adcWord sgl (portField w) &&& adcMask) : adcWord sgl (portField w) = w :=
  eq_of_agree_on_fields [(6, 3)] (by decide) h.symm
    (List.forall_mem_singleton.2 (portField_of_fits (fitsPort_portField w)))

theorem decodeAdc_eq_instr {w : Half} {i : Instr} (h : decodeAdc w = .instr i) :
    i.wellFormed = true ∧ encode i = .adc16 w := by
  have hport := fitsPort_portField w
  unfold decodeAdc at h
  split_ifs at h with hsingle hdiff
  · cases h
    exact ⟨hport, congrArg _ (adcWord_portField
      (hsingle.trans (MatchesItsRow.adcCmdSingle (portField w)).symm))⟩
  · cases h
    exact ⟨hport, congrArg _ (adcWord_portField
      (hdiff.trans (MatchesItsRow.adcCmdDiff (portField w)).symm))⟩

/-- Settles O2: by the row that a host word meets, or the mode of an ADC command word. -/
theorem encodingInvertsDecoding : Obligations.EncodingInvertsDecoding := by
  unfold Obligations.EncodingInvertsDecoding
  intro w i hdecode
  cases w with
  | host64 w =>
    obtain ⟨r, hr, hmatch, rfl⟩ := decodeHost_eq_instr_iff.1 hdecode
    exact encode_read hr hmatch
  | adc16 w => exact decodeAdc_eq_instr hdecode

/-! ## Words of the spec -/

/-- Settles O3: seven closed words, each read by the decoder. -/
theorem wordsOfTheSpecDecode : Obligations.WordsOfTheSpecDecode := by
  unfold Obligations.WordsOfTheSpecDecode
  decide

/-! ## The ADC command word (30_encoding R108, R109) -/

/-- The number of an ADC command word, for each of the 16. -/
theorem toNat_adcWord (sgl : Bool) {c : Nat} (hc : c < 8) :
    (adcWord sgl c).toNat = 0x0400 + (if sgl = true then 0x0200 else 0) + 64 * c := by
  have all_words : ∀ (b : Bool) (c : Fin 8),
      (adcWord b c).toNat = 0x0400 + (if b = true then 0x0200 else 0) + 64 * c := by decide
  exact all_words sgl ⟨c, hc⟩

theorem isSingle_eq_true_iff (m : Mode) : m.isSingle = true ↔ m = .single := by
  cases m <;> simp [Mode.isSingle]

end Sys2Proof

namespace Sys2Proof.Machine

theorem toNat_firstByte (w : Half) : (firstByte w).toNat = w.toNat / 256 := by
  have hlt := w.isLt
  simp only [firstByte, BitVec.extractLsb'_toNat, Nat.shiftRight_eq_div_pow]
  omega

theorem toNat_secondByte (w : Half) : (secondByte w).toNat = w.toNat % 256 := by
  simp [secondByte]

/-- Settles O5: the word as a number, and its two bytes as the quotient and remainder by 256. -/
theorem adcCommandWordLayout : Obligations.AdcCommandWordLayout := by
  unfold Obligations.AdcCommandWordLayout
  intro s c hc
  have hword : (encodeChannel c s).toNat =
      0x0400 + (if s.modeAt c = .single then 0x0200 else 0) + 64 * c := by
    simp only [encodeChannel, toNat_adcWord _ hc, isSingle_eq_true_iff]
  rw [toNat_firstByte, toNat_secondByte, hword]
  refine ⟨rfl, ?_⟩
  split <;> omega

end Sys2Proof.Machine
end

section
/-! PROOFS. Commands at the ports: each host command ends with one pending response, an ADC command
word is sent by the ADC_READ of its channel, and only the commands that select or read touch the
chain and the bus (spec 30_encoding R103, R114; 41_adc_protocol R170). -/

namespace Sys2Proof.Machine

/-! ## Every host command completes -/

/-- A host command goes on from every state: its work, then its response (60_exceptions R300). -/
theorem exec_command_responds {i : Instr} (s : State) (hi : isCommand i = true) :
    ∃ st r, exec i s = .next (respond st r (work i s)) := by
  cases i with
  | select dev => exact ⟨_, _, rfl⟩
  | adcRead dev ch =>
    obtain ⟨st, r, hread⟩ := readCommand_responds dev ch s
    exact ⟨st, r, congrArg Host.Outcome.next hread⟩
  | adcReadAll dev => exact ⟨_, _, rfl⟩
  | getConfig ch => exact execGetConfig_responds ch s
  | setConfig b ch => exact execSetConfig_responds b ch s
  | rawToVoltage vref raw => exact ⟨_, _, rfl⟩
  | saReadAll => exact ⟨_, _, rfl⟩
  | saReadAllRaw => exact ⟨_, _, rfl⟩
  | saReadChannel dev ch => exact execSaReadChannel_responds dev ch s
  | readBuf addr => exact execReadBuf_next addr s
  | adcCmdSingle ch => cases hi
  | adcCmdDiff ch => cases hi

/-- Taking a pending response lowers `rsp_valid`, and the phase is READY (30_encoding R114). -/
theorem step_takeResponse {s : State} {rest : List Move}
    (hpending : s.pending = .takeResponse :: rest) (hrsp : s.rspValid = true) (hphase : s.phase = .ready) :
    step s = .next { s with pending := rest, rspValid := false } := by
  rw [step_of_pending hpending, serve, takeResponse, if_pos hrsp, ← hphase]

/-- Settles O12: the response raises `rsp_valid`, and the handshake lowers it again. -/
theorem oneResponsePerCommand : Obligations.OneResponsePerCommand := by
  unfold Obligations.OneResponsePerCommand
  intro i s hi
  obtain ⟨st, r, hexec⟩ := exec_command_responds s hi
  refine ⟨respond st r (work i s), hexec, rfl, rfl, rfl, fun rest => ⟨?_, ?_⟩⟩
  · rw [step_takeResponse (rest := rest) rfl rfl rfl]
  · exact (cmdReady_iff _).2 ⟨rfl, rfl⟩

/-! ## Where the micro-operations run -/

/-- A host word never decodes to an ADC command word (30_encoding R104). -/
theorem isCommand_of_decodeHost {w : Command} {i : Instr} (h : decodeHost w = .instr i) :
    isCommand i = true := by
  obtain ⟨r, hr, -, rfl⟩ := decodeHost_eq_instr_iff.1 h
  simp only [hostRows, List.mem_cons, List.not_mem_nil, or_false] at hr
  rcases hr with rfl | rfl | rfl | rfl | rfl | rfl | rfl | rfl | rfl | rfl <;> rfl

/-- The host commands that call no micro-operation leave the ports as they are. -/
theorem exec_samePorts {i : Instr} {s t : State} (hi : isCommand i = true)
    (hcalls : selectsOrReads i = false) (hexec : exec i s = .next t) : SamePorts s t := by
  obtain ⟨st, r, rfl⟩ := exec_responds hexec
  have same : SamePorts s (work i s) := by
    cases i with
    | getConfig ch => exact SamePorts.refl s
    | setConfig b ch => exact configWork_samePorts b ch s
    | rawToVoltage vref raw => exact SamePorts.refl s
    | readBuf addr => exact SamePorts.refl s
    | adcCmdSingle ch => cases hi
    | adcCmdDiff ch => cases hi
    | _ => cases hcalls
  exact ⟨same.cfg, same.sr, same.cur, same.busHeld, same.trace, same.rx, same.drawn, same.frameRet⟩

theorem takeResponse_samePorts (s : State) : SamePorts s (takeResponse s) := by
  unfold takeResponse
  split
  · exact {}
  · exact SamePorts.refl s

/-- All that a micro-operation of the chain or the bus could have touched is as it was. -/
theorem SamePorts.untouched {s t : State} (h : SamePorts s t) :
    t.trace = s.trace ∧ t.sr = s.sr ∧ t.cur = s.cur ∧ t.busHeld = s.busHeld ∧ t.rx = s.rx ∧
      t.drawn = s.drawn ∧ t.frameRet = s.frameRet :=
  ⟨h.trace, h.sr, h.cur, h.busHeld, h.rx, h.drawn, h.frameRet⟩

/-- Settles O53: by the ways a step goes on. -/
theorem microOperationsRunOnlyInsideCommands :
    Obligations.MicroOperationsRunOnlyInsideCommands := by
  unfold Obligations.MicroOperationsRunOnlyInsideCommands
  intro s t hstep
  cases stepsTo_of_step hstep with
  | idle _ => exact .inr (.inr (SamePorts.refl s).untouched)
  | @command w rest i _ hpending _ hdecode hexec =>
    cases hcalls : selectsOrReads i with
    | true => exact .inr (.inl ⟨w, rest, i, hpending, hdecode, hcalls⟩)
    | false =>
      exact .inr (.inr (exec_samePorts (isCommand_of_decodeHost hdecode) hcalls hexec).untouched)
  | illegal _ _ _ => exact .inr (.inr (SamePorts.untouched {}))
  | @response rest _ =>
    exact .inr (.inr (takeResponse_samePorts { s with pending := rest }).untouched)
  | reset hpending => exact .inl ⟨_, hpending⟩

/-! ## The ADC command words (log 9) -/

/-- The ADC command word of a mode and a channel, as an instruction. -/
def adcInstr : Mode → Nat → Instr
  | .single, ch => .adcCmdSingle ch
  | .differential, ch => .adcCmdDiff ch

theorem exec_adcInstr (m : Mode) (ch : Nat) (s : State) :
    exec (adcInstr m ch) s = sendWord m ch s := by
  cases m <;> rfl

/-- In the mode of the word, its row runs as the ADC_READ of the current device does from its own
host word (41_adc_protocol R170). -/
theorem runDecoded_adcRead_cur {m : Mode} {ch : Nat} {s : State} (hch : fitsPort ch = true)
    (hmode : s.modeAt ch = m) :
    runDecoded (decodeHost (hostWord 0x2 s.cur.toNat ch false 0 0)) s =
      exec (adcInstr m ch) s := by
  have hport := fitsPort_iff.1 hch
  have hwf : (Instr.adcRead s.cur.toNat ch).wellFormed = true :=
    Bool.and_eq_true_iff.2 ⟨fitsByte_iff.2 s.cur.isLt, fitsByte_iff.2 (by omega)⟩
  have hdecode : decodeHost (hostWord 0x2 s.cur.toNat ch false 0 0) =
      .instr (.adcRead s.cur.toNat ch) := decodingInvertsEncoding _ hwf
  rw [hdecode, exec_adcInstr, sendWord_same m ch s hmode]
  rfl

theorem modeAt_setMode_same {s : State} {c : Nat} (m : Mode) (hc : c < s.mode.length) :
    (setMode c m s).modeAt c = m := by
  simp [State.modeAt, List.getD, hc]

theorem fitsPort_of_decodeAdc {w : Half} {m : Mode} {ch : Nat}
    (h : decodeAdc w = .instr (adcInstr m ch)) : fitsPort ch = true := by
  obtain ⟨hwf, -⟩ := decodeAdc_eq_instr h
  cases m <;> exact hwf

/-- 16 bits placed for the next step present the ADC_READ that sends them (log 9). -/
theorem withFetchWord_adc {w : Half} {m : Mode} {ch : Nat} (s : State)
    (h : decodeAdc w = .instr (adcInstr m ch)) :
    s.withFetchWord 16 w.toNat = presentSender m ch s := by
  have hword : wordOfBits 16 w.toNat = .adc16 w := by simp [wordOfBits]
  cases m <;> simp only [State.withFetchWord, hword, placeWord, h, adcInstr]

/-- Settles O9: the ADC_READ presented in the mode of the word runs as the word's own row. -/
theorem stepRunsTheDecodedFrame : Obligations.StepRunsTheDecodedFrame := by
  unfold Obligations.StepRunsTheDecodedFrame
  intro s w i m ch hdecode hrow
  obtain rfl : i = adcInstr m ch := by
    rcases hrow with ⟨rfl, rfl⟩ | ⟨rfl, rfl⟩ <;> rfl
  have hch := fitsPort_of_decodeAdc hdecode
  constructor
  · intro read rest hread hpending hphase hrsp hmode
    obtain rfl := EncodedWord.host64.inj hread
    have hready : cmdReady s = true := (cmdReady_iff s).2 ⟨hphase, hrsp⟩
    rw [step_of_accepted_command hpending hready]
    exact runDecoded_adcRead_cur (s := { s with pending := rest, phase := .busy }) hch hmode
  · intro hlength
    have hmode := modeAt_setMode_same m (hlength ▸ fitsPort_iff.1 hch : ch < s.mode.length)
    rw [withFetchWord_adc s hdecode, presentSender, step_presentCommand]
    exact runDecoded_adcRead_cur (s := { setMode ch m s with phase := .busy, rspValid := false })
      hch hmode

end Sys2Proof.Machine
end

section
/-! PROOFS. What the answers of the SPI port influence: two states whose answers give the same
readings stay alike, but for the answers and the trace, through every instruction (spec 30_encoding
R110, 41_adc_protocol R171). -/

namespace Sys2Proof.Machine

/-! ## Two states run side by side -/

/-- A state that differs from `s` in the answers and the trace only, and whose answers give the
readings that those of `s` give. -/
inductive SameButAnswers (s : State) : State → Prop where
  | intro (rx : List Byte) (trace : List Event)
      (readings : ∀ j, { s with rx := rx, trace := trace }.readingAt j = s.readingAt j) :
      SameButAnswers s { s with rx := rx, trace := trace }

/-- Two outcomes alike: the same refusal, or next states alike. -/
inductive SameOutcome :
    Host.Outcome State Fault Refusal → Host.Outcome State Fault Refusal → Prop where
  | next {t t' : State} (h : SameButAnswers t t') : SameOutcome (.next t) (.next t')
  | refused (r : Refusal) : SameOutcome (.refused r) (.refused r)

/-- Loops whose bodies keep a relation keep it. -/
theorem repeatTimes_related {σ : Type} {R : σ → σ → Prop} {f g : σ → σ}
    (hbody : ∀ x y, R x y → R (f x) (g y)) (n : Nat) {x y : σ} (h : R x y) :
    R (repeatTimes n f x) (repeatTimes n g y) := by
  induction n with
  | zero => exact h
  | succ n ih => exact hbody _ _ ih

theorem forUpTo_related {σ : Type} {R : σ → σ → Prop} {f g : Nat → σ → σ}
    (hbody : ∀ i x y, R x y → R (f i x) (g i y)) (n : Nat) {x y : σ} (h : R x y) :
    R (forUpTo n f x) (forUpTo n g y) := by
  induction n with
  | zero => exact h
  | succ n ih => exact hbody n _ _ ih

section
variable {s s' : State}

theorem SameButAnswers.fields (h : SameButAnswers s s') :
    s' = { s with rx := s'.rx, trace := s'.trace } := by
  cases h
  rfl

theorem SameButAnswers.cfg (h : SameButAnswers s s') : s'.cfg = s.cfg := by
  cases h
  rfl

theorem SameButAnswers.cur (h : SameButAnswers s s') : s'.cur = s.cur := by
  cases h
  rfl

theorem SameButAnswers.modeAt (h : SameButAnswers s s') (c : Nat) : s'.modeAt c = s.modeAt c := by
  cases h
  rfl

theorem SameButAnswers.baseAt (h : SameButAnswers s s') (p c : Nat) :
    s'.baseAt p c = s.baseAt p c := by
  cases h
  rfl

theorem SameButAnswers.readingAt (h : SameButAnswers s s') (j : Nat) :
    s'.readingAt j = s.readingAt j := by
  cases h with
  | intro rx trace readings => exact readings j

theorem SameButAnswers.memRead (h : SameButAnswers s s') (a : Nat) :
    memRead a s' = memRead a s := by
  cases h
  exact memRead_congr a _ _ rfl rfl rfl rfl rfl rfl rfl rfl rfl

/-! ## Updates and micro-operations -/

theorem SameButAnswers.respond (h : SameButAnswers s s') (st : Status) (r : Result) :
    SameButAnswers (respond st r s) (respond st r s') := by
  cases h with
  | intro rx trace readings => exact .intro rx trace readings

theorem SameButAnswers.setMode (h : SameButAnswers s s') (c : Nat) (b : Mode) :
    SameButAnswers (setMode c b s) (setMode c b s') := by
  cases h with
  | intro rx trace readings => exact .intro rx trace readings

theorem SameButAnswers.setCur (h : SameButAnswers s s') (k : Nat) :
    SameButAnswers (setCur k s) (setCur k s') := by
  cases h with
  | intro rx trace readings => exact .intro rx trace readings

theorem SameButAnswers.srAdvance (b : Bool) (s s' : State) (h : SameButAnswers s s') :
    SameButAnswers (srAdvance b s) (srAdvance b s') := by
  cases h with
  | intro rx trace readings =>
    exact .intro (s := Machine.srAdvance b s) rx (trace ++ [.srShift b]) readings

theorem SameButAnswers.srSetAll (h : SameButAnswers s s') (b : Bool) :
    SameButAnswers (srSetAll b s) (srSetAll b s') := by
  unfold Machine.srSetAll State.lines
  rw [h.cfg]
  exact repeatTimes_related (SameButAnswers.srAdvance b) _ h

theorem SameButAnswers.selectStart (h : SameButAnswers s s') (t : Nat) :
    SameButAnswers (selectStart t s) (selectStart t s') := by
  unfold Machine.selectStart
  rw [h.cur]
  split
  · exact (SameButAnswers.srAdvance false _ _ (h.srSetAll true)).setCur 1
  · exact h

/-- A selection depends on no answer (40_selector R143). -/
theorem SameButAnswers.selectCore (h : SameButAnswers s s') (d : Nat) :
    (selectCore d s').1 = (selectCore d s).1 ∧
      SameButAnswers (selectCore d s).2 (selectCore d s').2 := by
  unfold Machine.selectCore
  have hstart := h.selectStart d
  rw [h.cfg, hstart.cur]
  split
  · exact ⟨rfl, (repeatTimes_related (SameButAnswers.srAdvance true) _ hstart).setCur d⟩
  · exact ⟨rfl, (h.srSetAll true).setCur 0⟩

/-- A frame takes one reading's answers. -/
theorem readingAt_frame (c j : Nat) (s : State) :
    (frame c s).2.readingAt j = s.readingAt (1 + j) := by
  rw [frame, exchange_eq]
  exact readingAt_afterReads s 0 1 j []

/-- A frame returns the next reading, and depends on no other bit of the answers (41_adc_protocol
R171). -/
theorem SameButAnswers.frame (h : SameButAnswers s s') (c : Nat) :
    (frame c s').1 = (frame c s).1 ∧ SameButAnswers (frame c s).2 (frame c s').2 := by
  have readings : ∀ j, (Machine.frame c s').2.readingAt j = (Machine.frame c s).2.readingAt j :=
    fun j => by rw [readingAt_frame, readingAt_frame, h.readingAt]
  have hnext := h.readingAt 0
  have hfields : (Machine.frame c s').2 = { (Machine.frame c s).2 with
      rx := (Machine.frame c s').2.rx, trace := (Machine.frame c s').2.trace } := by
    cases h
    simp only [Machine.frame, exchange_eq, hnext]
  refine ⟨?_, hfields ▸ .intro _ _ (hfields ▸ readings)⟩
  rw [Machine.frame, Machine.frame, exchange_eq, exchange_eq]
  exact hnext

/-- A read depends on the answers through its reading (41_adc_protocol R174). -/
theorem SameButAnswers.readCore (h : SameButAnswers s s') (d c : Nat) :
    (readCore d c s').1 = (readCore d c s).1 ∧
      SameButAnswers (readCore d c s).2 (readCore d c s').2 := by
  obtain ⟨hvalid, hsel⟩ := h.selectCore d
  simp only [Machine.readCore, hvalid]
  split
  · exact hsel.frame c
  · exact ⟨rfl, hsel⟩

/-! ## What the commands store -/

theorem SameButAnswers.storeChbuf (h : SameButAnswers s s') (c : Nat) (v : Half) :
    SameButAnswers { s with chbuf := s.chbuf.set c v } { s' with chbuf := s'.chbuf.set c v } := by
  cases h with
  | intro rx trace readings =>
    exact .intro (s := { s with chbuf := s.chbuf.set c v }) rx trace readings

theorem SameButAnswers.storeRawbuf (h : SameButAnswers s s') (p c : Nat) (v : Half) :
    SameButAnswers { s with rawbuf := setCell s.rawbuf p c v }
      { s' with rawbuf := setCell s'.rawbuf p c v } := by
  cases h with
  | intro rx trace readings =>
    exact .intro (s := { s with rawbuf := setCell s.rawbuf p c v }) rx trace readings

theorem SameButAnswers.storeXY (h : SameButAnswers s s') (p : Nat) (x y : Half) :
    SameButAnswers { s with xout := s.xout.set p x, yout := s.yout.set p y }
      { s' with xout := s'.xout.set p x, yout := s'.yout.set p y } := by
  cases h with
  | intro rx trace readings =>
    exact .intro (s := { s with xout := s.xout.set p x, yout := s.yout.set p y }) rx trace readings

theorem SameButAnswers.readIntoChbuf (dev c : Nat) (s s' : State) (h : SameButAnswers s s') :
    SameButAnswers (readIntoChbuf dev c s) (readIntoChbuf dev c s') := by
  obtain ⟨hvalue, hread⟩ := h.readCore dev c
  simp only [Machine.readIntoChbuf, hvalue]
  exact hread.storeChbuf c _

theorem SameButAnswers.readIntoRawbuf (p c : Nat) (s s' : State) (h : SameButAnswers s s') :
    SameButAnswers (readIntoRawbuf p c s) (readIntoRawbuf p c s') := by
  obtain ⟨hvalue, hread⟩ := h.readCore (p + 1) c
  simp only [Machine.readIntoRawbuf, hvalue]
  exact hread.storeRawbuf p c _

/-- The running sums of a plate are the same on both sides. -/
def SameSums (x x' : List Nat × State) : Prop := x'.1 = x.1 ∧ SameButAnswers x.2 x'.2

theorem SameSums.addReading (p c : Nat) (x x' : List Nat × State) (h : SameSums x x') :
    SameSums (addReading p c x) (addReading p c x') := by
  obtain ⟨hsums, hstate⟩ := h
  obtain ⟨hvalue, hread⟩ := hstate.readCore (p + 1) c
  refine ⟨?_, hread⟩
  simp only [Machine.addReading, hsums, hvalue]

theorem SameButAnswers.samplePlate (h : SameButAnswers s s') (p : Nat) :
    SameSums (samplePlate p s) (samplePlate p s') := by
  unfold Machine.samplePlate
  rw [h.cfg]
  exact repeatTimes_related (fun _ _ => forUpTo_related (SameSums.addReading p) _) _ ⟨rfl, h⟩

theorem SameButAnswers.readPlate (p : Nat) (s s' : State) (h : SameButAnswers s s') :
    SameButAnswers (readPlate p s) (readPlate p s') := by
  obtain ⟨hsums, hstate⟩ := h.samplePlate p
  have hbase : plateBaselines p s' = plateBaselines p s := by
    simp only [plateBaselines, h.baseAt]
  simp only [Machine.readPlate, hsums, hbase, h.cfg]
  exact hstate.storeXY p _ _

theorem SameButAnswers.rawSweep (h : SameButAnswers s s') :
    SameButAnswers (rawSweep s) (rawSweep s') := by
  unfold Machine.rawSweep
  rw [h.cfg]
  refine forUpTo_related (fun p t t' ht => ?_) _ h
  rw [ht.cfg]
  exact forUpTo_related (SameButAnswers.readIntoRawbuf p) _ ht

/-! ## Every instruction -/

theorem SameButAnswers.readCommand (h : SameButAnswers s s') (dev ch : Nat) :
    SameButAnswers (readCommand dev ch s) (readCommand dev ch s') := by
  obtain ⟨hvalue, hread⟩ := h.readCore dev ch
  simp only [Machine.readCommand, h.cfg, hvalue]
  split
  · exact hread.respond _ _
  · exact h.respond _ _

theorem SameButAnswers.sendWord (h : SameButAnswers s s') (m : Mode) (ch : Nat) :
    SameOutcome (sendWord m ch s) (sendWord m ch s') := by
  unfold Machine.sendWord
  rw [h.modeAt, h.cur]
  split
  · exact .next (h.readCommand _ ch)
  · exact .refused _

theorem SameButAnswers.execSaReadChannel (h : SameButAnswers s s') (dev ch : Nat) :
    SameOutcome (execSaReadChannel dev ch s) (execSaReadChannel dev ch s') := by
  obtain ⟨hvalue, hread⟩ := h.readCore dev ch
  simp only [Machine.execSaReadChannel, h.cfg, hvalue, hread.baseAt]
  split_ifs
  · exact .next (hread.respond _ _)
  · exact .next (hread.respond _ _)
  · exact .next (h.respond _ _)

theorem SameButAnswers.execGetConfig (h : SameButAnswers s s') (ch : Nat) :
    SameOutcome (execGetConfig ch s) (execGetConfig ch s') := by
  unfold Machine.execGetConfig
  rw [h.modeAt]
  split
  · exact .next (h.respond _ _)
  · exact .next (h.respond _ _)

theorem SameButAnswers.execSetConfig (h : SameButAnswers s s') (b : Mode) (ch : Nat) :
    SameOutcome (execSetConfig b ch s) (execSetConfig b ch s') := by
  unfold Machine.execSetConfig
  split_ifs
  · exact .next ((forUpTo_related (fun c _ _ ht => ht.setMode c b) _ h).respond _ _)
  · cases b with
    | differential => exact .next (((h.setMode _ _).setMode _ _).respond _ _)
    | single => exact .next ((h.setMode _ _).respond _ _)
  · exact .next (h.respond _ _)

theorem SameButAnswers.execReadBuf (h : SameButAnswers s s') (a : Nat) :
    SameOutcome (execReadBuf a s) (execReadBuf a s') := by
  unfold Machine.execReadBuf
  rw [h.memRead]
  split
  · exact .next (h.respond _ _)
  · exact .next (h.respond _ _)

theorem SameButAnswers.exec (h : SameButAnswers s s') (i : Instr) :
    SameOutcome (exec i s) (exec i s') := by
  cases i with
  | select dev => exact .next ((h.selectCore dev).2.respond _ _)
  | adcRead dev ch => exact .next (h.readCommand dev ch)
  | adcReadAll dev =>
    have hreads := forUpTo_related (SameButAnswers.readIntoChbuf dev) s.cfg.channels h
    simp only [Machine.exec, execAdcReadAll, h.cfg]
    exact .next (hreads.respond _ _)
  | getConfig ch => exact h.execGetConfig ch
  | setConfig b ch => exact h.execSetConfig b ch
  | rawToVoltage vref raw => exact .next (h.respond _ _)
  | saReadAll =>
    have hplates := forUpTo_related SameButAnswers.readPlate s.cfg.devices h
    simp only [Machine.exec, execSaReadAll, h.cfg]
    exact .next (hplates.respond _ _)
  | saReadAllRaw => exact .next (h.rawSweep.respond _ _)
  | saReadChannel dev ch => exact h.execSaReadChannel dev ch
  | readBuf addr => exact h.execReadBuf addr
  | adcCmdSingle ch => exact h.sendWord .single ch
  | adcCmdDiff ch => exact h.sendWord .differential ch

end

/-- Settles O26: every instruction keeps the two states alike. -/
theorem unusedAnswerBitsDoNotMatter : Obligations.UnusedAnswerBitsDoNotMatter := by
  unfold Obligations.UnusedAnswerBitsDoNotMatter
  intro i s t t' answers hreadings hexec hexec'
  have halike : SameButAnswers s { s with rx := answers } :=
    .intro answers s.trace fun j => (hreadings j).symm
  have hout := halike.exec i
  rw [hexec, hexec'] at hout
  cases hout with
  | next h => exact h.fields

end Sys2Proof.Machine
end

section
/-! PROOFS. The assembler on lines of text: a number as it is written is read back, a line falls
apart into the mnemonic and the operands it was written from, and so the line of an instruction gives that
instruction's word (spec 30_encoding R112, R113). -/

namespace Sys2Proof.Machine

/-! ## Pieces of a line -/

/-- A character that neither separates nor starts a comment. -/
def tokenChar (c : Char) : Bool := !isBlank c && c != ',' && c != ';'

theorem tokenChar_iff (c : Char) :
    tokenChar c = true ↔ isBlank c = false ∧ c ≠ ',' ∧ c ≠ ';' := by
  simp [tokenChar, and_assoc]

/-- A mnemonic or an operand: such characters, at least one. -/
abbrev IsToken (cs : List Char) : Prop := cs ≠ [] ∧ cs.all tokenChar = true

theorem IsToken.char {cs : List Char} (h : IsToken cs) {c : Char} (hc : c ∈ cs) :
    isBlank c = false ∧ c ≠ ',' ∧ c ≠ ';' :=
  (tokenChar_iff c).1 (List.all_eq_true.1 h.2 c hc)

/-- A line that the trimming of white space and comments leaves as it is. -/
structure IsCode (cs : List Char) : Prop where
  nonempty : cs ≠ []
  head : ∀ c ∈ cs.head?, isBlank c = false
  last : ∀ c ∈ cs.getLast?, isBlank c = false
  comment : ∀ c ∈ cs, c ≠ ';'

theorem IsToken.isCode {cs : List Char} (h : IsToken cs) : IsCode cs where
  nonempty := h.1
  head _ hc := (h.char (List.mem_of_mem_head? hc)).1
  last _ hc := (h.char (List.mem_of_getLast? hc)).1
  comment _ hc := (h.char hc).2.2

theorem IsCode.append {a b mid : List Char} (ha : IsCode a) (hb : IsCode b)
    (hmid : ∀ c ∈ mid, c ≠ ';') : IsCode (a ++ mid ++ b) where
  nonempty := by simp [ha.nonempty]
  head := by
    rw [List.append_assoc, List.head?_append_of_ne_nil _ ha.nonempty]
    exact ha.head
  last := by
    rw [List.getLast?_append_of_ne_nil _ hb.nonempty]
    exact hb.last
  comment c hc := by
    rcases List.mem_append.1 hc with hc | hc
    · rcases List.mem_append.1 hc with hc | hc
      · exact ha.comment c hc
      · exact hmid c hc
    · exact hb.comment c hc

theorem dropBlank_of_head {cs : List Char} (h : ∀ c ∈ cs.head?, isBlank c = false) :
    cs.dropWhile isBlank = cs := by
  cases cs with
  | nil => rfl
  | cons c cs => exact List.dropWhile_cons_of_neg (by simp [h c rfl])

theorem IsCode.trimBlank {cs : List Char} (h : IsCode cs) : trimBlank cs = cs := by
  have hlast : ∀ c ∈ cs.reverse.head?, isBlank c = false := by simpa using h.last
  rw [Machine.trimBlank, dropBlank_of_head h.head, dropBlank_of_head hlast, List.reverse_reverse]

theorem trimBlank_cons_space (cs : List Char) : trimBlank (' ' :: cs) = trimBlank cs := rfl

theorem IsCode.takeWhile {cs : List Char} (h : IsCode cs) :
    cs.takeWhile (fun c => c ≠ ';') = cs :=
  List.takeWhile_eq_self_iff.2 fun c hc => by simpa using h.comment c hc

/-! ## The operands of a line -/

theorem isCode_intercalate {ops : List (List Char)} (hne : ops ≠ []) (h : ∀ a ∈ ops, IsToken a) :
    IsCode ([',', ' '].intercalate ops) := by
  induction ops with
  | nil => exact absurd rfl hne
  | cons a ops ih =>
    obtain ⟨ha, hops⟩ := List.forall_mem_cons.1 h
    cases ops with
    | nil => simpa using ha.isCode
    | cons b ops =>
      rw [List.intercalate_cons_cons]
      exact ha.isCode.append (ih (by simp) hops) (by simp)

/-- The blank after the mnemonic and the blanks after the commas stand before one operand each. -/
theorem space_cons_intercalate {ops : List (List Char)} (hne : ops ≠ []) :
    ' ' :: [',', ' '].intercalate ops = [','].intercalate (ops.map (' ' :: ·)) := by
  induction ops with
  | nil => exact absurd rfl hne
  | cons a ops ih =>
    cases ops with
    | nil => simp
    | cons b ops =>
      rw [List.intercalate_cons_cons, List.map_cons, List.map_cons, List.intercalate_cons_cons,
        ← List.map_cons, ← ih (by simp)]
      simp

/-- What stands after the mnemonic splits into the operands. -/
theorem splitOperands_intercalate {ops : List (List Char)} (hne : ops ≠ [])
    (h : ∀ a ∈ ops, IsToken a) : splitOperands (' ' :: [',', ' '].intercalate ops) = ops := by
  have hcode := isCode_intercalate hne h
  have htrim : ∀ a ∈ ops, trimBlank (' ' :: a) = a := fun a ha => (h a ha).isCode.trimBlank
  have hcomma : ∀ l ∈ ops.map (' ' :: ·), ',' ∉ l := by
    intro l hl hmem
    obtain ⟨a, ha, rfl⟩ := List.mem_map.1 hl
    rcases List.mem_cons.1 hmem with hblank | hmem
    · cases hblank
    · exact ((h a ha).char hmem).2.1 rfl
  rw [splitOperands, trimBlank_cons_space, hcode.trimBlank, if_neg hcode.nonempty,
    space_cons_intercalate hne, List.splitOn_intercalate _ hcomma (by simpa using hne),
    List.map_map]
  exact (List.map_congr_left htrim).trans (List.map_id ops)

/-! ## The line of a mnemonic and its operands -/

section
variable {name : String} {ops : List (List Char)}

theorem lineText_of_ne_nil (hne : ops ≠ []) :
    lineText name ops = name.toList ++ ' ' :: [',', ' '].intercalate ops := by
  cases ops with
  | nil => exact absurd rfl hne
  | cons a ops => rfl

variable (hname : IsToken name.toList) (hops : ∀ a ∈ ops, IsToken a)
include hname hops

theorem isCode_lineText : IsCode (lineText name ops) := by
  by_cases hne : ops = []
  · rw [hne]
    exact hname.isCode
  · rw [lineText_of_ne_nil hne, List.append_cons]
    exact hname.isCode.append (isCode_intercalate hne hops) (by simp)

omit hops in
/-- The mnemonic ends at the first blank, and the rest of the line splits into the operands. -/
theorem lineText_name : (lineText name ops).takeWhile (fun c => !isBlank c) = name.toList := by
  have hsolid : ∀ c ∈ name.toList, (!isBlank c) = true := fun c hc => by simp [(hname.char hc).1]
  by_cases hne : ops = []
  · rw [hne]
    exact List.takeWhile_eq_self_iff.2 hsolid
  · rw [lineText_of_ne_nil hne, List.takeWhile_append_of_pos hsolid,
      List.takeWhile_cons_of_neg (by simp [isBlank]), List.append_nil]

theorem lineText_operands :
    splitOperands ((lineText name ops).dropWhile fun c => !isBlank c) = ops := by
  have hsolid : ∀ c ∈ name.toList, (!isBlank c) = true := fun c hc => by simp [(hname.char hc).1]
  by_cases hne : ops = []
  · rw [hne]
    have hrest : name.toList.dropWhile (fun c => !isBlank c) = [] :=
      List.dropWhile_eq_nil_iff.2 hsolid
    rw [lineText, hrest]
    rfl
  · rw [lineText_of_ne_nil hne, List.dropWhile_append_of_pos hsolid,
      List.dropWhile_cons_of_neg (by simp [isBlank]), splitOperands_intercalate hne hops]

/-- A line with the mnemonic of an instruction assembles as that instruction. -/
theorem assembleLine_of_parseInstr {i : Instr} (hword : name.toList ≠ ".word64".toList)
    (hparse : parseInstr name.toList ops = some i) :
    assembleLine (String.ofList (lineText name ops)) = assembleInstr i := by
  have hcode := isCode_lineText hname hops
  simp only [assembleLine, String.toList_ofList, hcode.takeWhile, hcode.trimBlank,
    lineText_name hname, lineText_operands hname hops, if_neg hcode.nonempty, if_neg hword, hparse]

/-- A line with the mnemonic .word64 assembles as its number. -/
theorem assembleLine_of_word (hword : name.toList = ".word64".toList) :
    assembleLine (String.ofList (lineText name ops)) = assembleWord ops := by
  have hcode := isCode_lineText hname hops
  simp only [assembleLine, String.toList_ofList, hcode.takeWhile, hcode.trimBlank,
    lineText_name hname, lineText_operands hname hops, if_neg hcode.nonempty, if_pos hword]

end

/-! ## Numbers (30_encoding R112) -/

/-- Every digit that is written is a token and is read back, in decimal and in hexadecimal. -/
theorem digitChar_spec : ∀ m < 16,
    tokenChar m.digitChar = true ∧ m.digitChar ≠ 'x' ∧
      ∀ base ≤ 16, m < base → digitValue base m.digitChar = some m := by
  decide

theorem mem_toDigits {base : Nat} (hbase : 1 < base) (n : Nat) :
    ∀ c ∈ Nat.toDigits base n, ∃ m < base, c = m.digitChar := by
  induction n using Nat.base_induction base hbase with
  | single m hm =>
    rw [Nat.toDigits_of_lt_base hm]
    exact List.forall_mem_singleton.2 ⟨m, hm, rfl⟩
  | digit m k hk hm ih =>
    rw [← Nat.toDigits_append_toDigits hbase hm hk, Nat.toDigits_of_lt_base hk]
    exact List.forall_mem_append.2 ⟨ih, List.forall_mem_singleton.2 ⟨k, hk, rfl⟩⟩

theorem isToken_toDigits {base : Nat} (hbase : 1 < base) (hmax : base ≤ 16) (n : Nat) :
    IsToken (Nat.toDigits base n) := by
  refine ⟨Nat.toDigits_ne_nil, List.all_eq_true.2 fun c hc => ?_⟩
  obtain ⟨m, hm, rfl⟩ := mem_toDigits hbase n c hc
  exact (digitChar_spec m (by omega)).1

/-- Reading the digits of a number gives the number. -/
theorem digitsValue_toDigits {base : Nat} (hbase : 1 < base) (hmax : base ≤ 16) (n : Nat) :
    digitsValue base (Nat.toDigits base n) = some n := by
  have hvalue : ∀ m < base, digitValue base m.digitChar = some m := fun m hm =>
    (digitChar_spec m (by omega)).2.2 base hmax hm
  rw [digitsValue.eq_2 _ _ (by simp)]
  induction n using Nat.base_induction base hbase with
  | single m hm =>
    simp [Nat.toDigits_of_lt_base hm, hvalue m hm]
  | digit m k hk hm ih =>
    rw [← Nat.toDigits_append_toDigits hbase hm hk, List.foldl_append, ih,
      Nat.toDigits_of_lt_base hk]
    simp [hvalue k hk, Nat.mul_comm]

/-- How numbers are written: each number is a token, and is read back. -/
structure WritesNumbers (write : Nat → List Char) : Prop where
  token : ∀ n, IsToken (write n)
  read : ∀ n, parseNumber (write n) = some n

theorem writesNumbers_decimal : WritesNumbers decimalText where
  token := isToken_toDigits (by decide) (by decide)
  read n := by
    have hx : 'x' ∉ decimalText n := fun hmem => by
      obtain ⟨m, hm, hchar⟩ := mem_toDigits (by decide) n 'x' hmem
      exact (digitChar_spec m (by omega)).2.1 hchar.symm
    unfold parseNumber
    split
    next cs heq => exact absurd (heq ▸ .tail _ (.head _) : 'x' ∈ decimalText n) hx
    next => exact digitsValue_toDigits (by decide) (by decide) n

theorem writesNumbers_hex : WritesNumbers hexText where
  token n := by
    obtain ⟨-, hdigits⟩ := isToken_toDigits (base := 16) (by decide) (by decide) n
    exact ⟨List.cons_ne_nil _ _, hdigits⟩
  read := digitsValue_toDigits (by decide) (by decide)

/-! ## The line of an instruction -/

theorem isToken_modeText (m : Mode) : IsToken (modeText m) := by
  cases m <;> decide

theorem parseMode_modeText (m : Mode) : parseMode (modeText m) = some m := by
  cases m <;> decide

section
variable {write : Nat → List Char} (hw : WritesNumbers write)
include hw

/-- No number is written ALL. -/
theorem parsePort_write (n : Nat) : parsePort (write n) = some n := by
  have hall : write n ≠ "ALL".toList := fun h => by
    have hread := hw.read n
    rw [h] at hread
    exact absurd hread (by simp [parseNumber, digitsValue, digitValue])
  rw [parsePort, if_neg hall, hw.read]

/-- The line that spells a host instruction assembles as that instruction. -/
theorem assembleLine_sourceText {i : Instr} (hi : isCommand i = true) :
    assembleLine (String.ofList (sourceText write i)) = assembleInstr i := by
  have no_operand : ∀ t ∈ ([] : List (List Char)), IsToken t := List.forall_mem_nil _
  have one : ∀ a, ∀ t ∈ [write a], IsToken t := fun a => List.forall_mem_singleton.2 (hw.token a)
  have two : ∀ a b, ∀ t ∈ [write a, write b], IsToken t := fun a b =>
    List.forall_mem_cons.2 ⟨hw.token a, one b⟩
  cases i with
  | select dev =>
    have hparse : parseInstr "SELECT".toList [write dev] = some (.select dev) := by
      simp [parseInstr, hw.read]
    exact assembleLine_of_parseInstr (by decide) (one dev) (by decide) hparse
  | adcRead dev ch =>
    have hparse : parseInstr "ADC_READ".toList [write dev, write ch] = some (.adcRead dev ch) := by
      simp [parseInstr, hw.read]
    exact assembleLine_of_parseInstr (by decide) (two dev ch) (by decide) hparse
  | adcReadAll dev =>
    have hparse : parseInstr "ADC_READ_ALL".toList [write dev] = some (.adcReadAll dev) := by
      simp [parseInstr, hw.read]
    exact assembleLine_of_parseInstr (by decide) (one dev) (by decide) hparse
  | getConfig ch =>
    have hparse : parseInstr "GET_CONFIG".toList [write ch] = some (.getConfig ch) := by
      simp [parseInstr, hw.read]
    exact assembleLine_of_parseInstr (by decide) (one ch) (by decide) hparse
  | setConfig m ch =>
    have hparse : parseInstr "SET_CONFIG".toList [modeText m, write ch] =
        some (.setConfig m ch) := by
      simp [parseInstr, parseMode_modeText, parsePort_write hw]
    exact assembleLine_of_parseInstr (by decide)
      (List.forall_mem_cons.2 ⟨isToken_modeText m, one ch⟩) (by decide) hparse
  | rawToVoltage vref raw =>
    have hparse : parseInstr "RAW_TO_VOLTAGE".toList [write vref, write raw] =
        some (.rawToVoltage vref raw) := by
      simp [parseInstr, hw.read]
    exact assembleLine_of_parseInstr (by decide) (two vref raw) (by decide) hparse
  | saReadAll =>
    have hparse : parseInstr "SA_READ_ALL".toList [] = some .saReadAll := by decide
    exact assembleLine_of_parseInstr (by decide) no_operand (by decide) hparse
  | saReadAllRaw =>
    have hparse : parseInstr "SA_READ_ALL_RAW".toList [] = some .saReadAllRaw := by decide
    exact assembleLine_of_parseInstr (by decide) no_operand (by decide) hparse
  | saReadChannel dev ch =>
    have hparse : parseInstr "SA_READ_CHANNEL".toList [write dev, write ch] =
        some (.saReadChannel dev ch) := by
      simp [parseInstr, hw.read]
    exact assembleLine_of_parseInstr (by decide) (two dev ch) (by decide) hparse
  | readBuf addr =>
    have hparse : parseInstr "READ_BUF".toList [write addr] = some (.readBuf addr) := by
      simp [parseInstr, hw.read]
    exact assembleLine_of_parseInstr (by decide) (one addr) (by decide) hparse
  | adcCmdSingle ch => cases hi
  | adcCmdDiff ch => cases hi

/-- A `.word64` line gives the number it writes, if it has 64 bits. -/
theorem assembleLine_word64 (n : Nat) :
    assembleLine (String.ofList (".word64 ".toList ++ write n)) =
      if n < 2 ^ 64 then .word (BitVec.ofNat 64 n) else .refused := by
  have hline : ".word64 ".toList ++ write n = lineText ".word64" [write n] := by simp [lineText]
  rw [hline, assembleLine_of_word (by decide) (List.forall_mem_singleton.2 (hw.token n)) rfl,
    assembleWord, hw.read]

end

/-! ## The statement -/

theorem encode_command {i : Instr} (hi : isCommand i = true) : ∃ w, encode i = .host64 w := by
  cases i with
  | adcCmdSingle ch => cases hi
  | adcCmdDiff ch => cases hi
  | _ => exact ⟨_, rfl⟩

/-- A host instruction whose operands fit assembles to a word that decodes to it. -/
theorem assembleInstr_of_wellFormed {i : Instr} (hi : isCommand i = true)
    (hwf : i.wellFormed = true) : ∃ w, assembleInstr i = .word w ∧ decodeHost w = .instr i := by
  obtain ⟨w, hencode⟩ := encode_command hi
  have hdecode := decodingInvertsEncoding i hwf
  rw [hencode] at hdecode
  exact ⟨w, by rw [assembleInstr, if_pos hwf, hencode], hdecode⟩

theorem assembleInstr_of_not_wellFormed {i : Instr} (hwf : i.wellFormed = false) :
    assembleInstr i = .refused := by
  simp [assembleInstr, hwf]

/-- A line with a comment is read up to its semicolon. -/
theorem assembleLine_comment (line comment : List Char) :
    assembleLine (String.ofList (line ++ ';' :: comment)) = assembleLine (String.ofList line) := by
  have hcut : (line ++ ';' :: comment).takeWhile (fun c => c ≠ ';') =
      line.takeWhile (fun c => c ≠ ';') := by
    induction line with
    | nil => rfl
    | cons c line ih => simp only [List.cons_append, List.takeWhile_cons, ih]
  simp only [assembleLine, String.toList_ofList, hcut]

/-- Settles O7: the line of an instruction assembles as that instruction, whose word decodes to it
when its operands fit. -/
theorem assemblingRefusesWhatDoesNotFit : Obligations.AssemblingRefusesWhatDoesNotFit := by
  unfold Obligations.AssemblingRefusesWhatDoesNotFit
  refine ⟨fun write hwrite => ?_, by decide, by decide, by decide, assembleLine_comment⟩
  have hw : WritesNumbers write := by
    rcases hwrite with rfl | rfl
    · exact writesNumbers_decimal
    · exact writesNumbers_hex
  refine ⟨fun i hi => ?_, assembleLine_word64 hw⟩
  rw [assembleLine_sourceText hw hi]
  exact ⟨assembleInstr_of_wellFormed hi, assembleInstr_of_not_wellFormed⟩

end Sys2Proof.Machine
end

section
/-! PROOFS. The selector: the chain's micro-operations on a selected line, and what one and two
selections leave (spec 40_selector R140 to R149). -/

namespace Sys2Proof.Machine

/-! ## Lines of the chain -/

/-- Past the last stage no line is asserted (40_selector R149). -/
theorem chainSelecting_of_gt {n t : Nat} (h : n < t) : chainSelecting n t = chainSelecting n 0 := by
  apply List.ext_getElem
  · simp
  · intro i hi _
    simp only [chainSelecting_length] at hi
    simp only [chainSelecting_getElem]
    exact decide_eq_decide.2 (by omega)

/-! ## Filling the chain (40_selector R141) -/

/-- Settles O16: after k advances of one bit the first k stages hold it, and after N all do. -/
theorem setAllIgnoresWhatTheChainHeld : Obligations.SetAllIgnoresWhatTheChainHeld := by
  unfold Obligations.SetAllIgnoresWhatTheChainHeld
  intro s b held hpos
  have hlines : s.cfg.devices ≠ 0 := Nat.ne_of_gt hpos
  have hfill : ∀ sr, (srSetAll b { s with sr := sr }).sr = List.replicate s.cfg.devices b := by
    intro sr
    rw [srSetAll_eq]
    exact if_neg hlines
  refine ⟨(hfill held).trans (hfill s.sr).symm, ?_, ?_, ?_,
    List.replicate s.cfg.devices (.srShift b), ?_, List.length_replicate, ?_⟩
  · rw [hfill s.sr]
    exact fun x hx => List.eq_of_mem_replicate hx
  · rw [hfill s.sr, List.length_replicate]
  · intro k hk
    rw [repeat_srAdvance]
    by_cases hzero : k = 0
    · simp [hzero]
    · simp [hzero, List.take_take, Nat.min_eq_left hk]
  · rw [srSetAll_eq]
  · exact fun e he => List.eq_of_mem_replicate he

/-! ## Inside a selection (40_selector R149) -/

/-- Between two states only shifts were emitted. -/
def ShiftsOnly (s t : State) : Prop := ∃ bits : List Bool, t.trace = s.trace ++ bits.map .srShift

section
variable {s t : State}

theorem ShiftsOnly.refl (s : State) : ShiftsOnly s s := ⟨[], by simp⟩

theorem ShiftsOnly.srAdvance (b : Bool) (t : State) (h : ShiftsOnly s t) :
    ShiftsOnly s (srAdvance b t) := by
  obtain ⟨bits, hbits⟩ := h
  exact ⟨bits ++ [b], by simp [hbits]⟩

theorem ShiftsOnly.srSetAll (b : Bool) (h : ShiftsOnly s t) : ShiftsOnly s (srSetAll b t) :=
  repeatTimes_keeps _ _ (ShiftsOnly.srAdvance b) _ t h

theorem ShiftsOnly.selectStart (d : Nat) (h : ShiftsOnly s t) : ShiftsOnly s (selectStart d t) := by
  unfold Machine.selectStart
  split
  · exact ShiftsOnly.srAdvance false _ (h.srSetAll true)
  · exact h

theorem ShiftsOnly.selectCore (d : Nat) (h : ShiftsOnly s t) : ShiftsOnly s (selectCore d t).2 := by
  unfold Machine.selectCore
  split
  · exact repeatTimes_keeps _ _ (ShiftsOnly.srAdvance true) _ _ (h.selectStart d)
  · exact h.srSetAll true

end

/-- Settles O17: a deselect bit moves the asserted line one outward, and past the end no line is
asserted. -/
theorem passedLinesAreAssertedInTurn : Obligations.PassedLinesAreAssertedInTurn := by
  unfold Obligations.PassedLinesAreAssertedInTurn
  refine ⟨?_, fun _ => rfl, ?_, fun s t => (ShiftsOnly.refl s).selectCore t⟩
  · intro s k j hk _ hsr
    rw [repeat_advance_selected j k hk s hsr]
    split
    · rfl
    · exact chainSelecting_of_gt (by omega)
  · intro s hpos
    exact congrArg State.sr (chainReset_eq s hpos)

/-! ## One selection and a second (40_selector R143 to R147) -/

/-- Settles O13: SELECT is one selection and its response. -/
theorem selectSelectsTheDevice : Obligations.SelectSelectsTheDevice := by
  unfold Obligations.SelectSelectsTheDevice
  intro s dev hwf hcor hpos hdev
  obtain ⟨-, hmax, -⟩ := (config_wellFormed_iff _).1 hwf
  rw [exec, execSelect, selectCore_valid dev s ((validDevice_iff _ _).2 ⟨hpos, hdev⟩) hmax hcor]
  rfl

@[simp] theorem shiftCount_map_srShift (bits : List Bool) :
    shiftCount (bits.map .srShift) = bits.length := by
  simp [shiftCount, List.countP_map, Function.comp_def]

/-- Selecting the selected device takes the reset path: N shifts, and one for each line up to it
(40_selector R145). -/
theorem length_selectBits_same {n t : Nat} (hpos : 1 ≤ t) (ht : t ≤ n) :
    (selectBits n t t).length = n + t := by
  rw [selectBits, if_neg (by omega), if_pos (.inr (le_refl t))]
  simp
  omega

/-- Settles O15: the second selection starts where the first one ended. -/
theorem selectingTwiceIsSelectingOnce : Obligations.SelectingTwiceIsSelectingOnce := by
  unfold Obligations.SelectingTwiceIsSelectingOnce
  intro s t hwf hcor hpos ht
  obtain ⟨-, hmax, -⟩ := (config_wellFormed_iff _).1 hwf
  have hvalid : validDevice s.cfg t = true := (validDevice_iff _ _).2 ⟨hpos, ht⟩
  have hcorAfter := (selectsOneLine_selectCore t s ⟨hwf, hcor⟩).2
  have hcur : (BitVec.ofNat 8 t).toNat = t := by
    rw [BitVec.toNat_ofNat, Nat.mod_eq_of_lt (by omega)]
  rw [selectCore_valid t s hvalid hmax hcor] at hcorAfter ⊢
  refine ⟨hcur, rfl, selectEvents s.cfg.devices t t, ?_, ?_, ?_⟩
  · rw [selectEvents, shiftCount_map_srShift, length_selectBits_same hpos ht]
  · rw [selectEvents, List.length_map, length_selectBits_same hpos ht]
  · rw [selectCore_valid t _ (by exact hvalid) (by exact hmax) hcorAfter]
    simp only [hcur]

end Sys2Proof.Machine
end

section
/-! PROOFS. What the select lines show while an instruction runs: at most one is asserted at any
point, and each frame follows at once the shift that asserted its own (spec 40_selector R142, R149,
R150; 41_adc_protocol R172). -/

namespace Sys2Proof.Machine

/-! ## Properties that selections and whole reads keep

`PortInvariant` asks that a frame alone keeps the property. What is said here of a frame depends on
the selection before it, so the unit is READ_CORE, the only caller of a frame (41_adc_protocol
R172). -/

/-- A property of the ports that selections and whole reads keep. -/
structure ReadInvariant (P : State → Prop) : Prop where
  ofSamePorts : ∀ {s t : State}, P s → SamePorts s t → P t
  selectCore : ∀ (d : Nat) (s : State), P s → P (selectCore d s).2
  readCore : ∀ (d c : Nat) (s : State), P s → P (readCore d c s).2

section
variable {P : State → Prop}

theorem ReadInvariant.channelWork (hP : ReadInvariant P) (dev ch : Nat) (s : State) (h : P s) :
    P (channelWork dev ch s) := by
  unfold Machine.channelWork
  split
  · exact hP.readCore dev ch s h
  · exact h

theorem ReadInvariant.readPlate (hP : ReadInvariant P) (p : Nat) (s : State) (h : P s) :
    P (readPlate p s) := by
  have hsamples : P (samplePlate p s).2 :=
    repeatTimes_keeps (fun x : List Nat × State => P x.2) _
      (fun x hx => forUpTo_keeps (fun _ x => P x.2) _ _
        (fun c x _ => hP.readCore (p + 1) c x.2) x hx) _ _ h
  exact hP.ofSamePorts hsamples {}

theorem ReadInvariant.work (hP : ReadInvariant P) (i : Instr) (s : State) (h : P s) :
    P (work i s) := by
  cases i with
  | select dev => exact hP.selectCore dev s h
  | adcRead dev ch | saReadChannel dev ch => exact hP.channelWork dev ch s h
  | adcReadAll dev =>
    exact forUpTo_keeps (fun _ => P) _ _
      (fun c t _ ht => hP.ofSamePorts (hP.readCore dev c t ht) {}) s h
  | getConfig ch | readBuf ch => exact h
  | rawToVoltage vref raw => exact h
  | setConfig b ch => exact hP.ofSamePorts h (configWork_samePorts b ch s)
  | saReadAll => exact forUpTo_keeps (fun _ => P) _ _ (fun p t _ => hP.readPlate p t) s h
  | saReadAllRaw =>
    exact forUpTo_keeps (fun _ => P) _ _ (fun p t _ => forUpTo_keeps (fun _ => P) _ _
      (fun c u _ hu => hP.ofSamePorts (hP.readCore (p + 1) c u hu) {}) t) s h
  | adcCmdSingle ch | adcCmdDiff ch => exact hP.channelWork s.cur.toNat ch s h

/-- Every instruction keeps such a property. -/
theorem ReadInvariant.exec (hP : ReadInvariant P) {i : Instr} {s t : State} (h : P s)
    (hexec : exec i s = .next t) : P t := by
  obtain ⟨st, r, rfl⟩ := exec_responds hexec
  exact hP.ofSamePorts (hP.work i s h) {}

end

/-! ## Events one by one -/

/-- Of each of some events, `Q` holds of the events before it and of it. -/
def AtEach (Q : List Event → Event → Prop) (es : List Event) : Prop :=
  ∀ before e after, es = before ++ e :: after → Q before e

section
variable {Q : List Event → Event → Prop} {e : Event} {es fs : List Event}

theorem atEach_nil : AtEach Q [] := by
  intro before e after h
  simp at h

theorem atEach_cons : AtEach Q (e :: es) ↔ Q [] e ∧ AtEach (fun before => Q (e :: before)) es := by
  constructor
  · intro h
    exact ⟨h [] e es rfl, fun before f after hes => h (e :: before) f after (by rw [hes]; rfl)⟩
  · rintro ⟨hhead, htail⟩ before f after hes
    cases before with
    | nil =>
      obtain ⟨rfl, -⟩ := List.cons.inj hes
      exact hhead
    | cons g before =>
      obtain ⟨rfl, htl⟩ := List.cons.inj hes
      exact htail before f after htl

theorem atEach_append :
    AtEach Q (es ++ fs) ↔ AtEach Q es ∧ AtEach (fun before => Q (es ++ before)) fs := by
  induction es generalizing Q with
  | nil => simp [atEach_nil]
  | cons e es ih => simp only [List.cons_append, atEach_cons, ih, and_assoc]

end

/-! ## Safe events (40_selector R142, R150) -/

/-- After the events `before` from a chain `sr`, the event `e` is safe: it leaves at most one line
asserted, and if it begins a frame, one line has just been asserted for it. -/
def SafeAt (n : Nat) (sr : List Bool) (before : List Event) (e : Event) : Prop :=
  AtMostOneLow (replayChain n sr (before ++ [e])) ∧
    (e = .spiBegin → ∃ k, JustAsserted n sr before k)

/-- Each of some events from a chain `sr` is safe. -/
abbrev SafeEvents (n : Nat) (sr : List Bool) (es : List Event) : Prop := AtEach (SafeAt n sr) es

section
variable {n : Nat} {sr : List Bool} {es fs : List Event}

/-- A line just asserted after some events was just asserted, whatever came before them. -/
theorem JustAsserted.after {k : Nat} (h : JustAsserted n (replayChain n sr es) fs k) :
    JustAsserted n sr (es ++ fs) k := by
  obtain ⟨hpos, hmax, before, b, rfl, hhigh, hchain⟩ := h
  refine ⟨hpos, hmax, es ++ before, b, by rw [List.append_assoc], ?_, ?_⟩
  · rwa [replayChain_append]
  · rwa [replayChain_append]

/-- Safe events after safe events are safe. -/
theorem SafeEvents.append (hes : SafeEvents n sr es)
    (hfs : SafeEvents n (replayChain n sr es) fs) : SafeEvents n sr (es ++ fs) := by
  refine atEach_append.2 ⟨hes, fun before e after hsplit => ?_⟩
  obtain ⟨hlow, hbegin⟩ := hfs before e after hsplit
  refine ⟨?_, fun he => ?_⟩
  · rwa [List.append_assoc, replayChain_append]
  · obtain ⟨k, hk⟩ := hbegin he
    exact ⟨k, hk.after⟩

/-- A shift is safe where the chain that it leaves is. -/
theorem safeEvents_shift {b : Bool} (h : AtMostOneLow ((b :: sr).take n)) :
    SafeEvents n sr [.srShift b] :=
  atEach_cons.2 ⟨⟨h, fun he => by cases he⟩, atEach_nil⟩

/-- A frame is safe after safe events that end with the shift that asserts its line: it does not
touch the chain. -/
theorem SafeEvents.frame {k : Nat} {w : Half} {r1 r2 r3 : Byte} (hes : SafeEvents n sr es)
    (hlast : JustAsserted n sr es k) (hlow : AtMostOneLow (replayChain n sr es)) :
    SafeEvents n sr (es ++ frameEvents w r1 r2 r3) := by
  have safeAt : ∀ before e,
      replayChain n (replayChain n sr es) (before ++ [e]) = replayChain n sr es →
      (e = .spiBegin → before = []) → SafeAt n sr (es ++ before) e := by
    intro before e hsame hfirst
    refine ⟨?_, fun he => ⟨k, ?_⟩⟩
    · rwa [List.append_assoc, replayChain_append, hsame]
    · rwa [hfirst he, List.append_nil]
  refine atEach_append.2 ⟨hes, ?_⟩
  simp only [frameEvents, atEach_cons]
  exact ⟨safeAt _ _ rfl fun _ => rfl, safeAt _ _ rfl nofun, safeAt _ _ rfl nofun,
    safeAt _ _ rfl nofun, safeAt _ _ rfl nofun, atEach_nil⟩

/-- Safe events never leave more than one line asserted, where the chain before them has at most one
asserted. -/
theorem SafeEvents.atMostOneLow (hes : SafeEvents n sr (es ++ fs)) (hsr : AtMostOneLow sr) :
    AtMostOneLow (replayChain n sr es) := by
  rcases List.eq_nil_or_concat' es with rfl | ⟨before, e, rfl⟩
  · exact hsr
  · exact (hes before e fs (by simp)).1

end

/-! ## The events of a selection are safe (40_selector R145, R149) -/

section
variable {n : Nat}

theorem atMostOneLow_chainSelecting (n t : Nat) : AtMostOneLow (chainSelecting n t) := by
  have hmap : (chainSelecting n t).count false = (List.range n).countP (fun i => i + 1 = t) := by
    simp [chainSelecting, List.count, List.countP_map, Function.comp_def]
  cases t with
  | zero => simp [AtMostOneLow, hmap]
  | succ t =>
    have hone := List.nodup_iff_count_le_one.1 (List.nodup_range (n := n)) t
    rw [AtMostOneLow, hmap]
    simpa [List.count, Nat.add_right_cancel_iff, beq_eq_decide] using hone

/-- The line that `m` deselect bits leave selected, where `c` was before: none stays none. -/
def lineAfter (c m : Nat) : Nat := if c = 0 then 0 else c + m

theorem lineAfter_zero (c : Nat) : lineAfter c 0 = c := by
  unfold lineAfter
  split_ifs <;> omega

theorem lineAfter_succ (c m : Nat) : lineAfter c (m + 1) = lineAfter (lineAfter c 1) m := by
  unfold lineAfter
  split_ifs <;> omega

theorem chainSelecting_lineAfter_one (n c : Nat) :
    (true :: chainSelecting n c).take n = chainSelecting n (lineAfter c 1) := by
  unfold lineAfter
  split
  next hc =>
    rw [hc, chainSelecting_zero, ← List.replicate_succ, List.take_replicate]
    simp
  next hc => exact chainSelecting_advance n c (by omega)

theorem replayChain_deselects (n c m : Nat) :
    replayChain n (chainSelecting n c) (List.replicate m (.srShift true)) =
      chainSelecting n (lineAfter c m) := by
  induction m generalizing c with
  | zero => rw [lineAfter_zero, List.replicate_zero, replayChain]
  | succ m ih =>
    rw [List.replicate_succ, replayChain, chainSelecting_lineAfter_one, ih, ← lineAfter_succ]

/-- N deselect bits pass every line out of the chain. -/
theorem replayChain_fill (n c : Nat) :
    replayChain n (chainSelecting n c) (List.replicate n (.srShift true)) = chainSelecting n 0 := by
  rw [replayChain_deselects, lineAfter]
  split
  · rfl
  · exact chainSelecting_of_gt (by omega)

theorem safeEvents_deselects (n c m : Nat) :
    SafeEvents n (chainSelecting n c) (List.replicate m (.srShift true)) := by
  induction m generalizing c with
  | zero => exact atEach_nil
  | succ m ih =>
    have hchain := chainSelecting_lineAfter_one n c
    have hfirst : SafeEvents n (chainSelecting n c) [.srShift true] :=
      safeEvents_shift (hchain ▸ atMostOneLow_chainSelecting n _)
    refine hfirst.append ?_
    rw [replayChain, replayChain, hchain]
    exact ih _

theorem selectEvents_invalid {t : Nat} (c : Nat) (h : t < 1 ∨ n < t) :
    selectEvents n c t = List.replicate n (.srShift true) := by
  rw [selectEvents, selectBits, if_pos h, List.map_replicate]

theorem selectEvents_reset {c t : Nat} (hpos : 1 ≤ t) (ht : t ≤ n) (hc : c = 0 ∨ t ≤ c) :
    selectEvents n c t = List.replicate n (.srShift true) ++
      [.srShift false] ++ List.replicate (t - 1) (.srShift true) := by
  rw [selectEvents, selectBits, if_neg (by omega), if_pos hc]
  simp

theorem selectEvents_forward {c t : Nat} (ht : t ≤ n) (hc : ¬(c = 0 ∨ t ≤ c)) :
    selectEvents n c t = List.replicate (t - c) (.srShift true) := by
  rw [selectEvents, selectBits, if_neg (by omega), if_neg hc, List.map_replicate]

/-- The reset path asserts line 1, whatever line was selected before. -/
theorem replayChain_reset (n c : Nat) :
    replayChain n (chainSelecting n c) (List.replicate n (.srShift true) ++ [.srShift false]) =
      chainSelecting n 1 := by
  rw [replayChain_append, replayChain_fill, chainSelecting_zero]
  exact chainSelecting_one n

theorem safeEvents_reset (n c : Nat) :
    SafeEvents n (chainSelecting n c) (List.replicate n (.srShift true) ++ [.srShift false]) := by
  refine (safeEvents_deselects n c n).append (safeEvents_shift ?_)
  rw [replayChain_fill, chainSelecting_zero, chainSelecting_one]
  exact atMostOneLow_chainSelecting n 1

theorem safeEvents_selectEvents (n c t : Nat) :
    SafeEvents n (chainSelecting n c) (selectEvents n c t) := by
  by_cases hinvalid : t < 1 ∨ n < t
  · rw [selectEvents_invalid c hinvalid]
    exact safeEvents_deselects n c n
  by_cases hc : c = 0 ∨ t ≤ c
  · rw [selectEvents_reset (by omega) (by omega) hc]
    refine (safeEvents_reset n c).append ?_
    rw [replayChain_reset]
    exact safeEvents_deselects n 1 _
  · rw [selectEvents_forward (by omega) hc]
    exact safeEvents_deselects n c _

/-- The last shift of a selection of line t finds the line before it selected, or none
where t is 1. -/
theorem selectEvents_last {c t : Nat} (hpos : 1 ≤ t) (ht : t ≤ n) :
    ∃ before b, selectEvents n c t = before ++ [.srShift b] ∧
      replayChain n (chainSelecting n c) before = chainSelecting n (t - 1) := by
  by_cases hc : c = 0 ∨ t ≤ c
  · rw [selectEvents_reset hpos ht hc]
    rcases t with _ | _ | u
    · omega
    · exact ⟨List.replicate n (.srShift true), false, by simp, replayChain_fill n c⟩
    · refine ⟨_ ++ List.replicate u (.srShift true), true,
        by rw [List.append_assoc _ _ [_], ← List.replicate_succ']; rfl, ?_⟩
      rw [replayChain_append, replayChain_reset, replayChain_deselects, lineAfter,
        if_neg one_ne_zero, Nat.add_comm]
      rfl
  · rw [selectEvents_forward ht hc, show t - c = t - 1 - c + 1 by omega, List.replicate_succ']
    refine ⟨_, _, rfl, ?_⟩
    rw [replayChain_deselects, lineAfter, if_neg (by omega), Nat.add_sub_cancel' (by omega)]

/-- A selection of a device ends with the shift that asserts its line (40_selector R150). -/
theorem justAsserted_selectEvents {k : Config} {c t : Nat} (hmax : k.devices ≤ 255)
    (hc : c ≤ k.devices) (hvalid : validDevice k t = true) :
    JustAsserted k.devices (chainSelecting k.devices c) (selectEvents k.devices c t) t := by
  obtain ⟨hpos, ht⟩ := (validDevice_iff _ _).1 hvalid
  obtain ⟨before, b, hsplit, hbefore⟩ := selectEvents_last (c := c) hpos ht
  refine ⟨hpos, ht, before, b, hsplit, ?_, (reselects_selectEvents hmax hc hvalid).2⟩
  rw [hbefore, List.getD_eq_getElem _ _ (by rw [chainSelecting_length]; omega),
    chainSelecting_getElem]
  exact decide_eq_true (by omega)

end

/-! ## Every instruction emits safe events -/

/-- From `s₀` to `s` only safe events were emitted, their shifts lead from the one chain to the
other, and CUR and the chain correspond. -/
structure SelectsSafely (s₀ s : State) : Prop where
  cfg : s.cfg = s₀.cfg
  selects : SelectsOneLine s
  events : ∃ es, s.trace = s₀.trace ++ es ∧ replayChain s₀.cfg.devices s₀.sr es = s.sr ∧
    SafeEvents s₀.cfg.devices s₀.sr es

section
variable {s₀ s t : State}

theorem SelectsSafely.trans (hst : SelectsSafely s₀ s) (htu : SelectsSafely s t) :
    SelectsSafely s₀ t := by
  obtain ⟨es, htrace, hchain, hsafe⟩ := hst.events
  obtain ⟨fs, htrace', hchain', hsafe'⟩ := htu.events
  rw [hst.cfg, ← hchain] at hchain' hsafe'
  refine ⟨htu.cfg.trans hst.cfg, htu.selects, es ++ fs, ?_, ?_, hsafe.append hsafe'⟩
  · rw [htrace', htrace, List.append_assoc]
  · rw [replayChain_append, hchain']

theorem SelectsSafely.refl (h : SelectsOneLine s) : SelectsSafely s s :=
  ⟨rfl, h, [], (List.append_nil _).symm, rfl, atEach_nil⟩

theorem SelectsSafely.ofSamePorts (h : SelectsSafely s₀ s) (hst : SamePorts s t) :
    SelectsSafely s₀ t where
  cfg := hst.cfg.trans h.cfg
  selects := portInvariant_selectsOneLine.ofSamePorts h.selects hst
  events := by
    rw [hst.trace, hst.sr]
    exact h.events

theorem selectsSafely_afterDeselects (h : SelectsOneLine s) :
    SelectsSafely s (s.afterDeselects 1) := by
  refine ⟨rfl, ⟨h.1, corresponds_of_deselected rfl rfl⟩, _, rfl, ?_, ?_⟩
  · rw [Nat.one_mul, h.2.2, replayChain_fill, chainSelecting_zero]
    rfl
  · rw [h.2.2]
    exact safeEvents_deselects _ _ _

theorem selectsSafely_selectCore (d : Nat) (s : State) (h : SelectsOneLine s) :
    SelectsSafely s (selectCore d s).2 := by
  obtain ⟨hwf, hcor⟩ := h
  obtain ⟨hpos, hmax, -⟩ := (config_wellFormed_iff _).1 hwf
  have hselects := selectsOneLine_selectCore d s ⟨hwf, hcor⟩
  by_cases hd : validDevice s.cfg d = true
  · rw [selectCore_valid d s hd hmax hcor] at hselects ⊢
    refine ⟨rfl, hselects, _, rfl, ?_, ?_⟩
    · rw [hcor.2]
      exact (reselects_selectEvents hmax hcor.1 hd).2
    · rw [hcor.2]
      exact safeEvents_selectEvents _ _ _
  · rw [selectCore_invalid d s (by simpa using hd) hpos]
    exact selectsSafely_afterDeselects ⟨hwf, hcor⟩

/-- A read of a device asserts its line and then runs the frame; a read of no device runs none
(41_adc_protocol R174). -/
theorem selectsSafely_readCore (d c : Nat) (s : State) (h : SelectsOneLine s) :
    SelectsSafely s (readCore d c s).2 := by
  obtain ⟨hwf, hcor⟩ := h
  obtain ⟨hpos, hmax, -⟩ := (config_wellFormed_iff _).1 hwf
  by_cases hd : validDevice s.cfg d = true
  · rw [readCore_valid d c s hd hmax hcor]
    have hchain := (reselects_selectEvents hmax hcor.1 hd).2
    refine ⟨rfl, ⟨hwf, afterReads_corresponds s d 1 _ hd hmax⟩, _, rfl, ?_, ?_⟩
    · rw [hcor.2, State.readEvents, replayChain_append, hchain]
      rfl
    · rw [hcor.2]
      refine (safeEvents_selectEvents _ _ _).frame (justAsserted_selectEvents hmax hcor.1 hd) ?_
      rw [hchain]
      exact atMostOneLow_chainSelecting _ _
  · rw [readCore_invalid d c s (by simpa using hd) hpos]
    exact selectsSafely_afterDeselects ⟨hwf, hcor⟩

/-- Safe events are all that selections and reads emit. -/
theorem readInvariant_selectsSafely : ReadInvariant (SelectsSafely s₀) where
  ofSamePorts := SelectsSafely.ofSamePorts
  selectCore d s h := h.trans (selectsSafely_selectCore d s h.selects)
  readCore d c s h := h.trans (selectsSafely_readCore d c s h.selects)

theorem selectsSafely_exec {i : Instr} (hwf : s.cfg.wellFormed = true) (hcor : Corresponds s)
    (hexec : exec i s = .next t) : SelectsSafely s t :=
  readInvariant_selectsSafely.exec (SelectsSafely.refl ⟨hwf, hcor⟩) hexec

end

/-- Settles O18: the events are safe, and the instruction starts with at most one line asserted. -/
theorem atMostOneLineAssertedThroughout : Obligations.AtMostOneLineAssertedThroughout := by
  unfold Obligations.AtMostOneLineAssertedThroughout
  intro i s t hwf hcor hexec
  obtain ⟨es, htrace, -, hsafe⟩ := (selectsSafely_exec hwf hcor hexec).events
  refine ⟨es, htrace, fun before after hes => ?_⟩
  refine SafeEvents.atMostOneLow (fs := after) (hes ▸ hsafe) ?_
  rw [hcor.2]
  exact atMostOneLow_chainSelecting _ _

/-- Settles O19: the events are safe, those that begin a frame among them. -/
theorem everyFrameFollowsAFreshSelect : Obligations.EveryFrameFollowsAFreshSelect := by
  unfold Obligations.EveryFrameFollowsAFreshSelect
  intro i s t hwf hcor hexec
  obtain ⟨es, htrace, -, hsafe⟩ := (selectsSafely_exec hwf hcor hexec).events
  exact ⟨es, htrace, fun before after hes => (hsafe before .spiBegin after hes).2 rfl⟩

end Sys2Proof.Machine
end

section
/-! PROOFS. The bus between commands: every bracket that an instruction opens it closes, and the bus
ends free where it began free (spec 20_memory R84, 41_adc_protocol R173). -/

namespace Sys2Proof.Machine

theorem WellBracketed.append {es fs : List Event} (hes : WellBracketed es)
    (hfs : WellBracketed fs) : WellBracketed (es ++ fs) := by
  rw [WellBracketed, bracketRun_append, hes]
  exact hfs

/-- Outside a bracket any number of shifts may stand (20_memory R82). -/
theorem wellBracketed_shifts (bits : List Bool) : WellBracketed (bits.map .srShift) := by
  induction bits with
  | nil => rfl
  | cons b bits ih => exact ih

/-- A selection does not touch BUS_HELD. -/
theorem selectCore_busHeld (d : Nat) (s : State) : (selectCore d s).2.busHeld = s.busHeld := by
  have hstart : (selectStart d s).busHeld = s.busHeld := by
    unfold selectStart
    split
    · rw [srSetAll_eq]
      rfl
    · rfl
  unfold selectCore
  split
  · rw [repeat_srAdvance]
    exact hstart
  · rw [srSetAll_eq]
    rfl

/-- From `s₀` to `s` only closed brackets were emitted, and the bus is not newly held. -/
structure ReleasesBus (s₀ s : State) : Prop where
  events : ∃ es, s.trace = s₀.trace ++ es ∧ WellBracketed es
  free : s₀.busHeld = false → s.busHeld = false

section
variable {s₀ s t : State}

theorem ReleasesBus.refl (s : State) : ReleasesBus s s where
  events := ⟨[], (List.append_nil _).symm, rfl⟩
  free h := h

theorem ReleasesBus.trans (hst : ReleasesBus s₀ s) (htu : ReleasesBus s t) :
    ReleasesBus s₀ t where
  events := by
    obtain ⟨es, htrace, hes⟩ := hst.events
    obtain ⟨fs, htrace', hfs⟩ := htu.events
    exact ⟨es ++ fs, by rw [htrace', htrace, List.append_assoc], hes.append hfs⟩
  free h := htu.free (hst.free h)

theorem SamePorts.releasesBus (h : SamePorts s t) : ReleasesBus s t where
  events := ⟨[], by rw [h.trace, List.append_nil], rfl⟩
  free hfree := h.busHeld.trans hfree

theorem releasesBus_selectCore (d : Nat) (s : State) : ReleasesBus s (selectCore d s).2 where
  events := by
    obtain ⟨bits, hbits⟩ := (ShiftsOnly.refl s).selectCore d
    exact ⟨_, hbits, wellBracketed_shifts bits⟩
  free h := (selectCore_busHeld d s).trans h

theorem releasesBus_frame (c : Nat) (s : State) : ReleasesBus s (frame c s).2 := by
  rw [frame, exchange_eq]
  exact ⟨⟨_, rfl, wellBracketed_frameEvents _ _ _ _ _⟩, fun _ => rfl⟩

/-- No selection and no frame leaves the bus held. -/
theorem portInvariant_releasesBus : PortInvariant (ReleasesBus s₀) where
  ofSamePorts h hst := h.trans hst.releasesBus
  selectCore d s h := h.trans (releasesBus_selectCore d s)
  frame c s h := h.trans (releasesBus_frame c s)

end

/-- Settles O25: closed brackets and a free bus are an invariant of the ports. -/
theorem theBusIsAlwaysReleased : Obligations.TheBusIsAlwaysReleased := by
  unfold Obligations.TheBusIsAlwaysReleased
  intro i s t hexec
  have hreleases := portInvariant_releasesBus.exec (ReleasesBus.refl s) hexec
  exact ⟨hreleases.events, hreleases.free⟩

end Sys2Proof.Machine
end

section
/-! PROOFS. One reading: the value of its answers, the command ADC_READ that returns it, and the ADC
command words that send its frame (spec 41_adc_protocol R170 to R175; log 9). -/

namespace Sys2Proof.Machine

/-! ## The value of two answers (41_adc_protocol R171) -/

theorem toNat_adcDecode (r2 r3 : Byte) :
    (adcDecode r2 r3).toNat = r2.toNat % 16 * 256 + r3.toNat := by
  rw [adcDecode, BitVec.toNat_append, BitVec.toNat_append,
    ← Nat.shiftLeft_add_eq_or_of_lt r3.isLt, Nat.shiftLeft_eq]
  simp

/-- The high nibble of the second answer is not read. -/
theorem adcDecode_or_highNibble (r2 r3 : Byte) : adcDecode (r2 ||| 0xF0) r3 = adcDecode r2 r3 := by
  have hnibble : (0xF0 : Byte).extractLsb' 0 4 = 0 := by decide
  rw [adcDecode, adcDecode, BitVec.extractLsb'_or, hnibble, BitVec.ofNat_eq_ofNat, BitVec.or_zero]

/-- Settles O6: the number of the two answers, and the range that every decoded answer has. -/
theorem decodeFormsTheTwelveBitResult : Obligations.DecodeFormsTheTwelveBitResult := by
  unfold Obligations.DecodeFormsTheTwelveBitResult
  refine ⟨fun r2 r3 => ⟨toNat_adcDecode r2 r3, isReading_adcDecode r2 r3,
    adcDecode_or_highNibble r2 r3⟩, ?_, ?_⟩
  · decide
  · decide

/-! ## ADC_READ -/

/-- ADC_READ of a device and a channel that there are is one read and its response
(41_adc_protocol R175). -/
theorem readCommand_valid {s : State} {dev ch : Nat} (hline : SelectsOneLine s)
    (hdev : validDevice s.cfg dev = true) (hch : ch < s.cfg.channels) :
    readCommand dev ch s =
      (s.afterReads dev 1 (s.readEvents s.cur.toNat dev ch 0)).responded .ok
        ((s.readingAt 0).zeroExtend 32) := by
  obtain ⟨hwf, hcor⟩ := hline
  obtain ⟨-, hmax, -⟩ := (config_wellFormed_iff _).1 hwf
  rw [readCommand_configured dev ch s hch, readCore_valid dev ch s hdev hmax hcor]
  rfl

/-- Settles O21: ADC_READ is one read of a device that there is. -/
theorem adcReadReturnsTheReading : Obligations.AdcReadReturnsTheReading := by
  unfold Obligations.AdcReadReturnsTheReading
  intro s dev ch hwf hcor hpos hdev hch
  rw [exec, execAdcRead,
    readCommand_valid ⟨hwf, hcor⟩ ((validDevice_iff _ _).2 ⟨hpos, hdev⟩) hch]

/-! ## The ADC command words (log 9) -/

/-- The bytes of the word of a mode and a channel, by their numbers (30_encoding R109). -/
theorem bytes_adcWord {m : Mode} {ch : Nat} {first second : Byte} (hch : ch < 8)
    (hfirst : first.toNat = (if m = .single then 6 else 4) + ch / 4)
    (hsecond : second.toNat = ch % 4 * 64) :
    firstByte (adcWord m.isSingle ch) = first ∧ secondByte (adcWord m.isSingle ch) = second := by
  have hword := toNat_adcWord m.isSingle hch
  simp only [isSingle_eq_true_iff] at hword
  constructor
  · apply BitVec.eq_of_toNat_eq
    rw [toNat_firstByte, hword, hfirst]
    split <;> omega
  · apply BitVec.eq_of_toNat_eq
    rw [toNat_secondByte, hword, hsecond]
    split <;> omega

/-- A read of the selected device ends with the chain and CUR as they were. -/
theorem afterReads_cur {s : State} (hcor : Corresponds s) (n : Nat) (es : List Event) :
    s.afterReads s.cur.toNat n es =
      { s with
        trace := s.trace ++ es
        busHeld := false
        rx := s.rx.drop (3 * n)
        drawn := s.drawn + 3 * n
        frameRet := s.readingAt (n - 1) } := by
  rw [State.afterReads, ← hcor.2, BitVec.ofNat_toNat, BitVec.setWidth_eq]

/-- A read of no device, where none is selected, leaves the chain and CUR as they were. -/
theorem afterDeselects_of_deselected {s : State} (hcor : Corresponds s) (hcur : s.cur.toNat = 0)
    (n : Nat) :
    s.afterDeselects n =
      { s with trace := s.trace ++ List.replicate (n * s.cfg.devices) (.srShift true) } := by
  have hzero : s.cur = 0 := BitVec.eq_of_toNat_eq hcur
  have hsr : s.sr = List.replicate s.cfg.devices true := by
    rw [hcor.2, hcur, chainSelecting_zero]
  rw [State.afterDeselects, ← hsr, ← hzero]

/-- Settles O24: a word in its channel's mode is sent by the ADC_READ of the current device. -/
theorem adcCommandWordsSendTheirFrame : Obligations.AdcCommandWordsSendTheirFrame := by
  unfold Obligations.AdcCommandWordsSendTheirFrame
  intro s ch i m first second hwf hcor hrow hsecond
  obtain ⟨hpos, -, -, hports, -⟩ := (config_wellFormed_iff _).1 hwf
  obtain ⟨rfl, hfirst⟩ : i = adcInstr m ch ∧
      first.toNat = (if m = .single then 6 else 4) + ch / 4 := by
    rcases hrow with ⟨rfl, rfl, hfirst⟩ | ⟨rfl, rfl, hfirst⟩ <;> exact ⟨rfl, hfirst⟩
  rw [exec_adcInstr]
  refine ⟨fun hmode hch hcur => ?_, fun hmode hch hcur => ?_, fun hmode hch => ?_,
    sendWord_other m ch s⟩
  · obtain ⟨rfl, rfl⟩ := bytes_adcWord (by omega) hfirst hsecond
    have hvalid : validDevice s.cfg s.cur.toNat = true :=
      (validDevice_iff _ _).2 ⟨Nat.pos_of_ne_zero hcur, hcor.1⟩
    rw [sendWord_same m ch s hmode, readCommand_valid ⟨hwf, hcor⟩ hvalid hch, afterReads_cur hcor,
      State.readEvents, hmode, List.append_assoc]
    rfl
  · have hinvalid : validDevice s.cfg s.cur.toNat = false := by simp [validDevice, hcur]
    rw [sendWord_same m ch s hmode, readCommand_configured _ ch s hch,
      readCore_invalid _ ch s hinvalid hpos, afterDeselects_of_deselected hcor hcur, Nat.one_mul]
    rfl
  · rw [sendWord_same m ch s hmode, readCommand_unconfigured _ ch s hch]
    rfl

end Sys2Proof.Machine
end

section
/-! PROOFS. ADC_READ_ALL: reads in a row, each of which finds the device of the one before it
selected, and the buffer that they fill (spec 41_adc_protocol R176, 40_selector R145). -/

namespace Sys2Proof.Machine

/-! ## Reads in a row -/

/-- One reading more is read after those before it (40_selector R145). -/
theorem sweepEvents_succ (s : State) (dev chan : Nat → Nat) (n : Nat) :
    s.sweepEvents dev chan (n + 1) = s.sweepEvents dev chan n ++
      s.readEvents (if n = 0 then s.cur.toNat else dev (n - 1)) (dev n) (chan n) n := by
  rw [State.sweepEvents, List.range_succ, List.flatMap_append, List.flatMap_singleton]
  rfl

/-- A read after some reads is the next reading. -/
theorem readCore_afterReads {s : State} {d d' : Nat} (c n : Nat) (es : List Event)
    (hmax : s.cfg.devices ≤ 255) (hd : validDevice s.cfg d = true)
    (hd' : validDevice s.cfg d' = true) :
    readCore d' c (s.afterReads d n es) =
      (s.readingAt n, s.afterReads d' (n + 1) (es ++ s.readEvents d d' c n)) := by
  have hcur : (s.afterReads d n es).cur.toNat = d := by
    have hle := ((validDevice_iff _ _).1 hd).2
    rw [State.afterReads, BitVec.toNat_ofNat, Nat.mod_eq_of_lt (by omega)]
  have hcor := afterReads_corresponds s d n es hd hmax
  rw [readCore_valid d' c _ (by exact hd') (by exact hmax) hcor, hcur, readingAt_afterReads,
    readEvents_afterReads, afterReads_afterReads _ _ _ _ _ _ _ le_rfl, Nat.add_zero]

/-! ## The buffer -/

/-- Of a buffer whose first entries `f` has overwritten, the next one is overwritten. -/
theorem set_overwritten {α : Type} (f : Nat → α) (l : List α) {n : Nat} (hn : n < l.length) :
    ((List.range n).map f ++ l.drop n).set n (f n) =
      (List.range (n + 1)).map f ++ l.drop (n + 1) := by
  rw [List.set_append_right _ _ (by simp), List.length_map, List.length_range, Nat.sub_self,
    List.drop_eq_getElem_cons hn, List.set_cons_zero, List.range_succ, List.map_append,
    List.append_assoc, List.map_singleton, List.singleton_append]

/-- CHBUF after the first `n` readings from `s` on. -/
def State.chbufRead (s : State) (n : Nat) : List Half :=
  (List.range n).map s.readingAt ++ s.chbuf.drop n

/-- The state after the first `n` reads of ADC_READ_ALL. -/
def State.afterReadAll (s : State) (dev n : Nat) : State :=
  { s.afterReads dev n (s.sweepEvents (fun _ => dev) (fun j => j) n) with chbuf := s.chbufRead n }

/-- The next read of ADC_READ_ALL: it finds `dev` selected, and puts its reading in place. -/
theorem readIntoChbuf_afterReadAll {s : State} {dev n : Nat} (hmax : s.cfg.devices ≤ 255)
    (hdev : validDevice s.cfg dev = true) (hlt : n + 1 < s.chbuf.length) :
    readIntoChbuf dev (n + 1) (s.afterReadAll dev (n + 1)) = s.afterReadAll dev (n + 2) := by
  have hread := readCore_afterReads (s := { s with chbuf := s.chbufRead (n + 1) }) (n + 1) (n + 1)
    (s.sweepEvents (fun _ => dev) (fun j => j) (n + 1)) hmax hdev hdev
  have hset : (s.chbufRead (n + 1)).set (n + 1) (s.readingAt (n + 1)) = s.chbufRead (n + 2) :=
    set_overwritten s.readingAt s.chbuf hlt
  have hevents := sweepEvents_succ s (fun _ => dev) (fun j => j) (n + 1)
  rw [if_neg (Nat.succ_ne_zero n)] at hevents
  unfold State.afterReadAll readIntoChbuf
  rw [← hset, hevents]
  exact congrArg (fun r : Half × State => { r.2 with chbuf := r.2.chbuf.set (n + 1) r.1 }) hread

theorem readIntoChbuf_first {s : State} {dev : Nat} (hline : SelectsOneLine s)
    (hdev : validDevice s.cfg dev = true) (hlt : 0 < s.chbuf.length) :
    readIntoChbuf dev 0 s = s.afterReadAll dev 1 := by
  obtain ⟨hwf, hcor⟩ := hline
  obtain ⟨-, hmax, -⟩ := (config_wellFormed_iff _).1 hwf
  have hset : s.chbuf.set 0 (s.readingAt 0) = s.chbufRead 1 :=
    set_overwritten s.readingAt s.chbuf hlt
  unfold State.afterReadAll readIntoChbuf
  rw [readCore_valid dev 0 s hdev hmax hcor, ← hset, sweepEvents_succ]
  rfl

/-- The reads of ADC_READ_ALL, one after another. -/
theorem forUpTo_readIntoChbuf {s : State} {dev n : Nat} (hline : SelectsOneLine s)
    (hdev : validDevice s.cfg dev = true) (hlt : n < s.chbuf.length) :
    forUpTo (n + 1) (readIntoChbuf dev) s = s.afterReadAll dev (n + 1) := by
  obtain ⟨-, hmax, -⟩ := (config_wellFormed_iff _).1 hline.1
  induction n with
  | zero => exact readIntoChbuf_first hline hdev hlt
  | succ n ih =>
    rw [forUpTo_succ, ih (by omega)]
    exact readIntoChbuf_afterReadAll hmax hdev hlt

/-- Settles O23: by the reads one after another; there is at least one channel, and no more than
CHBUF has entries. -/
theorem adcReadAllFillsTheChannelBuffer : Obligations.AdcReadAllFillsTheChannelBuffer := by
  unfold Obligations.AdcReadAllFillsTheChannelBuffer
  intro s dev hwf hshaped hcor hpos hdev
  obtain ⟨-, -, hchannels, hports, -⟩ := (config_wellFormed_iff _).1 hwf
  obtain ⟨-, -, -, hchbuf, -⟩ := hshaped
  have hvalid : validDevice s.cfg dev = true := (validDevice_iff _ _).2 ⟨hpos, hdev⟩
  obtain ⟨n, hn⟩ := Nat.exists_eq_add_one_of_ne_zero (show s.cfg.channels ≠ 0 by omega)
  have hreads := forUpTo_readIntoChbuf (n := n) ⟨hwf, hcor⟩ hvalid (by omega)
  rw [← hn] at hreads
  rw [exec, execAdcReadAll, hreads]
  rfl

end Sys2Proof.Machine
end

section
/-! PROOFS. The words on the wire: in a host command each frame sends the word of a configured
channel in its present mode (spec 41_adc_protocol R170, R172; 30_encoding R111). -/

namespace Sys2Proof.Machine

/-! ## Frames among some events -/

/-- Some events begin with the rest of a frame, its SPI_BEGIN taken away, that sends the word of a
channel of `s` in its present mode. -/
def BeginsWithWord (s : State) (es : List Event) : Prop :=
  ∃ c r1 r2 r3 later, c < s.cfg.channels ∧
    es = .spiXfer (firstByte (adcWord (s.modeAt c).isSingle c)) r1 ::
      .spiXfer (secondByte (adcWord (s.modeAt c).isSingle c)) r2 ::
      .spiXfer 0 r3 :: .spiEnd :: later

/-- Each frame among some events sends such a word. -/
def CarriesModes (s : State) (es : List Event) : Prop :=
  ∀ before after, es = before ++ .spiBegin :: after → BeginsWithWord s after

section
variable {s : State} {es fs : List Event}

theorem BeginsWithWord.append (h : BeginsWithWord s es) (fs : List Event) :
    BeginsWithWord s (es ++ fs) := by
  obtain ⟨c, r1, r2, r3, later, hc, rfl⟩ := h
  exact ⟨c, r1, r2, r3, later ++ fs, hc, rfl⟩

theorem CarriesModes.append (hes : CarriesModes s es) (hfs : CarriesModes s fs) :
    CarriesModes s (es ++ fs) := by
  intro before after hsplit
  rcases List.append_eq_append_iff.1 hsplit with ⟨mid, -, hmid⟩ | ⟨mid, hmid, hrest⟩
  · exact hfs mid after hmid
  · cases mid with
    | nil => exact hfs [] after hrest.symm
    | cons e mid =>
      obtain ⟨rfl, rfl⟩ := List.cons.inj hrest
      exact (hes before mid hmid).append fs

/-- Events among which no frame begins. -/
theorem carriesModes_of_not_mem (h : .spiBegin ∉ es) : CarriesModes s es := by
  rintro before after rfl
  simp at h

theorem carriesModes_shifts (bits : List Bool) : CarriesModes s (bits.map .srShift) :=
  carriesModes_of_not_mem (by simp)

/-- The frame of a configured channel (41_adc_protocol R172). -/
theorem carriesModes_frameEvents {c : Nat} (hc : c < s.cfg.channels) (r1 r2 r3 : Byte) :
    CarriesModes s (frameEvents (encodeChannel c s) r1 r2 r3) := by
  intro before after hsplit
  rw [frameEvents] at hsplit
  cases before with
  | nil =>
    obtain ⟨-, rfl⟩ := List.cons.inj hsplit
    exact ⟨c, r1, r2, r3, [], hc, rfl⟩
  | cons e before =>
    exact carriesModes_of_not_mem (by simp) before after (List.cons.inj hsplit).2

end

/-! ## Reads of configured channels

`PortInvariant` speaks of every channel and leaves MODE free. Here a frame counts only for a channel
below C, and its word depends on MODE, so that a read also has to leave MODE as it was. -/

/-- From `s₀` to `s` the parameters and MODE stayed, and each frame sent the word of a channel in
its present mode. -/
structure SendsModes (s₀ s : State) : Prop where
  cfg : s.cfg = s₀.cfg
  mode : s.mode = s₀.mode
  events : ∃ es, s.trace = s₀.trace ++ es ∧ CarriesModes s₀ es

section
variable {s₀ s t : State}

/-- The words of the channels depend on the parameters and MODE only. -/
theorem CarriesModes.congr {es : List Event} (h : CarriesModes s es) (hcfg : s.cfg = s₀.cfg)
    (hmode : s.mode = s₀.mode) : CarriesModes s₀ es := by
  have hword : ∀ c, s.modeAt c = s₀.modeAt c := fun c => by rw [State.modeAt, hmode, State.modeAt]
  simpa only [CarriesModes, BeginsWithWord, hcfg, hword] using h

theorem SendsModes.refl (s : State) : SendsModes s s :=
  ⟨rfl, rfl, [], (List.append_nil _).symm, carriesModes_of_not_mem (by simp)⟩

theorem SendsModes.trans (hst : SendsModes s₀ s) (htu : SendsModes s t) : SendsModes s₀ t := by
  obtain ⟨es, htrace, hes⟩ := hst.events
  obtain ⟨fs, htrace', hfs⟩ := htu.events
  exact ⟨htu.cfg.trans hst.cfg, htu.mode.trans hst.mode, es ++ fs,
    by rw [htrace', htrace, List.append_assoc], hes.append (hfs.congr hst.cfg hst.mode)⟩

theorem sendsModes_selectCore (d : Nat) (s : State) : SendsModes s (selectCore d s).2 := by
  have htables := selectCore_sameTables d s
  obtain ⟨bits, hbits⟩ := (ShiftsOnly.refl s).selectCore d
  exact ⟨htables.cfg, htables.mode, _, hbits, carriesModes_shifts bits⟩

theorem sendsModes_frame {c : Nat} {s : State} (hc : c < s.cfg.channels) :
    SendsModes s (frame c s).2 := by
  rw [frame, exchange_eq]
  exact ⟨rfl, rfl, _, rfl, carriesModes_frameEvents hc _ _ _⟩

theorem SendsModes.readCore {c : Nat} (h : SendsModes s₀ s) (d : Nat) (hc : c < s₀.cfg.channels) :
    SendsModes s₀ (readCore d c s).2 := by
  have hselect := h.trans (sendsModes_selectCore d s)
  simp only [Machine.readCore]
  split
  · exact hselect.trans (sendsModes_frame (hselect.cfg ▸ hc))
  · exact hselect

theorem sendsModes_channelWork (dev ch : Nat) (s : State) :
    SendsModes s (channelWork dev ch s) := by
  unfold channelWork
  split
  next hconfigured => exact (SendsModes.refl s).readCore dev (of_decide_eq_true hconfigured)
  next => exact SendsModes.refl s

/-- What is stored in the tables other than MODE does not matter. -/
theorem SendsModes.ofSame (h : SendsModes s₀ s) (hcfg : t.cfg = s.cfg := by rfl)
    (hmode : t.mode = s.mode := by rfl) (htrace : t.trace = s.trace := by rfl) : SendsModes s₀ t :=
  ⟨hcfg.trans h.cfg, hmode.trans h.mode, htrace ▸ h.events⟩

theorem SendsModes.readAll (h : SendsModes s₀ s) (dev : Nat) :
    SendsModes s₀ (forUpTo s₀.cfg.channels (readIntoChbuf dev) s) :=
  forUpTo_keeps (fun _ => SendsModes s₀) _ _ (fun _ _ hc ht => (ht.readCore dev hc).ofSame) s h

theorem SendsModes.rawSweep (h : SendsModes s₀ s) : SendsModes s₀ (rawSweep s) :=
  forUpTo_keeps (fun _ => SendsModes s₀) _ _
    (fun p _ _ ht => forUpTo_keeps (fun _ => SendsModes s₀) _ _
      (fun _ _ hc hu => (hu.readCore (p + 1) (ht.cfg ▸ hc)).ofSame) _ ht) s h

/-- The channels of a plate are configured: C is at least 4 (00_scope R10). -/
theorem SendsModes.readPlate (hplate : Config.plateChannels ≤ s₀.cfg.channels)
    (h : SendsModes s₀ s) (p : Nat) : SendsModes s₀ (readPlate p s) := by
  have hsamples : SendsModes s₀ (samplePlate p s).2 :=
    repeatTimes_keeps (fun x : List Nat × State => SendsModes s₀ x.2) _
      (fun x hx => forUpTo_keeps (fun _ x => SendsModes s₀ x.2) _ _
        (fun c y hc hy => hy.readCore (p + 1) (Nat.lt_of_lt_of_le hc hplate)) x hx) _ _ h
  exact hsamples.ofSame

/-! ## Every instruction -/

theorem SamePorts.carriesModes (h : SamePorts s t) :
    ∃ es, t.trace = s.trace ++ es ∧ CarriesModes s es :=
  ⟨[], by rw [h.trace, List.append_nil], carriesModes_of_not_mem (by simp)⟩

/-- SET_CONFIG changes MODE and emits nothing; the others leave MODE as it is. -/
theorem carriesModes_work (i : Instr) (s : State) (hwf : s.cfg.wellFormed = true) :
    ∃ es, (work i s).trace = s.trace ++ es ∧ CarriesModes s es := by
  obtain ⟨-, -, hplate, -⟩ := (config_wellFormed_iff _).1 hwf
  have hstart := SendsModes.refl s
  cases i with
  | select dev => exact (sendsModes_selectCore dev s).events
  | adcRead dev ch | saReadChannel dev ch => exact (sendsModes_channelWork dev ch s).events
  | adcReadAll dev => exact (hstart.readAll dev).events
  | getConfig ch | readBuf ch => exact hstart.events
  | rawToVoltage vref raw => exact hstart.events
  | setConfig b ch => exact (configWork_samePorts b ch s).carriesModes
  | saReadAll =>
    exact (forUpTo_keeps (fun _ => SendsModes s) _ _ (fun p _ _ ht => ht.readPlate hplate p) s
      hstart).events
  | saReadAllRaw => exact hstart.rawSweep.events
  | adcCmdSingle ch | adcCmdDiff ch => exact (sendsModes_channelWork s.cur.toNat ch s).events

theorem carriesModes_exec {i : Instr} (hwf : s.cfg.wellFormed = true)
    (hexec : exec i s = .next t) : ∃ es, t.trace = s.trace ++ es ∧ CarriesModes s es := by
  obtain ⟨st, r, rfl⟩ := exec_responds hexec
  exact carriesModes_work i s hwf

end

/-- An accepted command runs its instruction, or it responds and emits nothing. -/
theorem carriesModes_step_command {s t : State} {w : Command} {rest : List Move}
    (hwf : s.cfg.wellFormed = true) (hpending : s.pending = .command w :: rest)
    (hstep : step s = .next t) : ∃ es, t.trace = s.trace ++ es ∧ CarriesModes s es := by
  cases stepsTo_of_step hstep with
  | idle hidle => cases hpending.symm.trans hidle
  | @command _ rest _ _ _ _ _ hexec =>
    exact carriesModes_exec (s := { s with pending := rest, phase := .busy }) hwf hexec
  | illegal _ _ _ => exact SamePorts.carriesModes {}
  | response hresponse => cases hpending.symm.trans hresponse
  | reset hreset => cases hpending.symm.trans hreset

/-- Settles O54: by what the events of an accepted command carry. -/
theorem everyWordSentCarriesTheMode : Obligations.EveryWordSentCarriesTheMode := by
  unfold Obligations.EveryWordSentCarriesTheMode
  intro s t w rest hwf hpending hstep
  exact carriesModes_step_command hwf hpending hstep

end Sys2Proof.Machine
end

section
/-! PROOFS. The mode table and the conversion: what SET_CONFIG leaves in each entry, when a pair
comes apart, and RAW_TO_VOLTAGE as a product of numbers (spec 42_config R211 to R214). -/

namespace Sys2Proof.Machine

/-! ## The entries of the mode table -/

/-- An entry of the table after one write. -/
theorem modeAt_setMode {s : State} {c : Nat} (b : Mode) (hc : c < s.mode.length) (e : Nat) :
    (setMode c b s).modeAt e = if e = c then b else s.modeAt e := by
  by_cases he : e = c
  · rw [he, if_pos rfl, modeAt_setMode_same b hc]
  · rw [if_neg he]
    simp [State.modeAt, List.getD, List.getElem?_set_ne (Ne.symm he)]

/-- An entry of the table after the write of one channel (42_config R211). -/
theorem modeAt_setModePaired {s : State} {c : Nat} (b : Mode) (hc : c < s.mode.length)
    (hpartner : partner c < s.mode.length) (e : Nat) :
    (setModePaired b c s).modeAt e =
      if e = c ∨ b = .differential ∧ e = partner c then b else s.modeAt e := by
  cases b with
  | single => simp [setModePaired, modeAt_setMode _ hc]
  | differential =>
    have hpartner' : partner c < (setMode c .differential s).mode.length := by simpa using hpartner
    rw [setModePaired, modeAt_setMode _ hpartner', modeAt_setMode _ hc]
    grind

@[simp] theorem setModePaired_mode_length (b : Mode) (c : Nat) (s : State) :
    (setModePaired b c s).mode.length = s.mode.length := by
  cases b <;> simp [setModePaired]

/-- The write of one channel is a write to the table only. -/
theorem setModePaired_eq (b : Mode) (c : Nat) (s : State) :
    setModePaired b c s = { s with mode := (setModePaired b c s).mode } := by
  cases b <;> rfl

/-- The loop of ALL_PORTS writes the first entries of the table and nothing else. -/
theorem forUpTo_setMode (b : Mode) (s : State) {n : Nat} (hn : n ≤ s.mode.length) :
    forUpTo n (fun c => setMode c b) s =
      { s with mode := (List.range n).map (fun _ => b) ++ s.mode.drop n } := by
  induction n with
  | zero => rfl
  | succ n ih =>
    rw [forUpTo_succ, ih (Nat.le_of_succ_le hn), setMode, set_overwritten (fun _ => b) s.mode hn]

/-! ## SET_CONFIG -/

@[simp] theorem tablePort_iff (c : Nat) : tablePort c = true ↔ c < 8 :=
  decide_eq_true_iff

/-- SET_CONFIG to ALL_PORTS fills the table. -/
theorem configWork_all (b : Mode) {s : State} (hlength : s.mode.length = 8) :
    configWork b Config.allPorts s = { s with mode := List.replicate 8 b } := by
  rw [configWork, if_pos rfl, Config.maxPorts, forUpTo_setMode b s (Nat.le_of_eq hlength.symm),
    ← hlength, List.drop_length, List.append_nil, List.map_const', List.length_range]

/-- SET_CONFIG to a channel of the table is the write of that channel. -/
theorem configWork_port (b : Mode) {ch : Nat} (s : State) (hch : ch < 8) :
    configWork b ch s = setModePaired b ch s := by
  have hne : ch ≠ Config.allPorts := Nat.ne_of_lt (Nat.lt_trans hch (by decide))
  rw [configWork, if_neg hne, if_pos ((tablePort_iff ch).2 hch)]

/-- SET_CONFIG succeeds on ALL_PORTS and on every channel of the table (42_config R211). -/
theorem exec_setConfig_ok (b : Mode) {ch : Nat} (s : State)
    (hch : ch = Config.allPorts ∨ ch < 8) :
    exec (.setConfig b ch) s = .next ((configWork b ch s).responded .ok 1) := by
  rw [exec, execSetConfig, configWork]
  by_cases hall : ch = Config.allPorts
  · rw [if_pos hall, if_pos hall]
    rfl
  · have hport : tablePort ch = true := (tablePort_iff ch).2 (hch.resolve_left hall)
    rw [if_neg hall, if_neg hall, if_pos hport, if_pos hport]
    rfl

/-- Settles O29: the loop has filled the table when the response is given. -/
theorem setConfigAllWritesEveryEntry : Obligations.SetConfigAllWritesEveryEntry := by
  unfold Obligations.SetConfigAllWritesEveryEntry
  intro s b hlength
  rw [← configWork_all b hlength]
  exact exec_setConfig_ok b s (.inl rfl)

/-! ## Pairs (42_config R212) -/

@[simp] theorem partner_partner (c : Nat) : partner (partner c) = c := by
  simp [partner]

/-- Channels 0..7 fall into pairs of two different channels each. -/
theorem partner_spec : ∀ c < 8, partner c < 8 ∧ partner c / 2 = c / 2 ∧ partner c ≠ c := by
  decide

/-- The entries that SET_CONFIG of mode `b` to channel `ch` writes (42_config R211). -/
def ConfigWrites (b : Mode) (ch e : Nat) : Prop :=
  ch = Config.allPorts ∨ ch < 8 ∧ (e = ch ∨ b = .differential ∧ e = partner ch)

/-- SET_CONFIG leaves its mode in the entries that it writes. -/
theorem modeAt_configWork_of_writes {b : Mode} {ch e : Nat} {s : State}
    (hlength : s.mode.length = 8) (he : e < 8) (h : ConfigWrites b ch e) :
    (configWork b ch s).modeAt e = b := by
  obtain rfl | ⟨hport, hwritten⟩ := h
  · rw [configWork_all b hlength, State.modeAt, List.getD_replicate _ he]
  · have hpartner := (partner_spec ch hport).1
    rw [configWork_port b s hport, modeAt_setModePaired b (by omega) (by omega), if_pos hwritten]

/-- SET_CONFIG leaves the other entries as they were. -/
theorem modeAt_configWork_of_not_writes {b : Mode} {ch e : Nat} {s : State}
    (hlength : s.mode.length = 8) (h : ¬ ConfigWrites b ch e) :
    (configWork b ch s).modeAt e = s.modeAt e := by
  obtain ⟨hall, hnot⟩ := not_or.1 h
  by_cases hport : ch < 8
  · have hpartner := (partner_spec ch hport).1
    rw [configWork_port b s hport, modeAt_setModePaired b (by omega) (by omega),
      if_neg fun hwritten => hnot ⟨hport, hwritten⟩]
  · rw [configWork, if_neg hall, if_neg (by simpa using hport)]

/-- DIFFERENTIAL writes both members of a pair or none. -/
theorem ConfigWrites.partner {ch e : Nat} (h : ConfigWrites .differential ch e) :
    ConfigWrites .differential ch (partner e) := by
  obtain hall | ⟨hport, rfl | ⟨-, rfl⟩⟩ := h
  · exact .inl hall
  · exact .inr ⟨hport, .inr ⟨rfl, rfl⟩⟩
  · exact .inr ⟨hport, .inl (partner_partner ch)⟩

/-- SINGLE writes one member of a pair alone only where it is that channel's. -/
theorem eq_of_configWrites_single {ch e : Nat} (h : ConfigWrites .single ch e)
    (hpartner : ¬ ConfigWrites .single ch (partner e)) : ch = e := by
  obtain hall | ⟨-, rfl | ⟨hmode, -⟩⟩ := h
  · exact absurd (.inl hall) hpartner
  · rfl
  · cases hmode

/-- A SET_CONFIG that takes a pair apart is a SINGLE of the one member on a DIFFERENTIAL pair. -/
theorem eq_single_of_pair_apart {b : Mode} {ch c : Nat} {s : State} (hlength : s.mode.length = 8)
    (hc : c < 8) (hsame : s.modeAt c = s.modeAt (partner c))
    (hsingle : (configWork b ch s).modeAt c = .single)
    (hdiff : (configWork b ch s).modeAt (partner c) = .differential) :
    b = .single ∧ ch = c ∧ s.modeAt c = .differential := by
  have hpartner_lt := (partner_spec c hc).1
  by_cases hwrites : ConfigWrites b ch c
  · obtain rfl : b = .single := (modeAt_configWork_of_writes hlength hc hwrites).symm.trans hsingle
    have hpartner : ¬ ConfigWrites .single ch (partner c) := fun h => by
      cases (modeAt_configWork_of_writes hlength hpartner_lt h).symm.trans hdiff
    rw [modeAt_configWork_of_not_writes hlength hpartner] at hdiff
    exact ⟨rfl, eq_of_configWrites_single hwrites hpartner, hsame.trans hdiff⟩
  · rw [modeAt_configWork_of_not_writes hlength hwrites] at hsingle
    have hpartner : ConfigWrites b ch (partner c) := by
      by_contra h
      rw [modeAt_configWork_of_not_writes hlength h] at hdiff
      cases hsingle.symm.trans (hsame.trans hdiff)
    obtain rfl : b = .differential :=
      (modeAt_configWork_of_writes hlength hpartner_lt hpartner).symm.trans hdiff
    exact absurd (partner_partner c ▸ hpartner.partner) hwrites

/-- An instruction leaves the mode table as it is, or it is a SET_CONFIG (10_state R47). -/
theorem exec_mode_same_or_configWork {i : Instr} {s t : State} (hexec : exec i s = .next t) :
    t.mode = s.mode ∨ ∃ b ch, i = .setConfig b ch ∧ t.mode = (configWork b ch s).mode := by
  obtain ⟨st, r, rfl⟩ := exec_responds hexec
  by_cases hi : ∃ b ch, i = .setConfig b ch
  · obtain ⟨b, ch, rfl⟩ := hi
    exact .inr ⟨b, ch, rfl, rfl⟩
  · exact .inl ((work_writesOwnTables i s).mode fun b ch h => hi ⟨b, ch, h⟩)

/-- Settles O30: by what SET_CONFIG leaves in each entry; a pair comes apart only where one member
is written without the other. -/
theorem differentialPairing : Obligations.DifferentialPairing := by
  unfold Obligations.DifferentialPairing
  refine ⟨?_, partner_spec, ?_⟩
  · intro s b c hlength hc
    obtain ⟨hpartner, -, hne⟩ := partner_spec c hc
    have hentry := modeAt_setModePaired (s := s) (c := c) b (by omega) (by omega)
    refine ⟨(setModePaired b c s).mode, ?_, by simpa using hlength, ?_, ?_, ?_⟩
    · rw [exec_setConfig_ok b s (.inr hc), configWork_port b s hc, ← setModePaired_eq]
    · exact (hentry c).trans (if_pos (.inl rfl))
    · refine (hentry (partner c)).trans ?_
      cases b with
      | differential => exact if_pos (.inr ⟨rfl, rfl⟩)
      | single => exact if_neg (by simp [hne])
    · intro e hec hep
      exact (hentry e).trans (if_neg (by rintro (rfl | ⟨-, rfl⟩) <;> contradiction))
  · intro i s t c hlength hc hexec hsame hsingle hdiff
    obtain hmode | ⟨b, ch, rfl, hmode⟩ := exec_mode_same_or_configWork hexec
    · rw [State.modeAt, hmode] at hsingle hdiff
      cases hsingle.symm.trans (hsame.trans hdiff)
    · rw [State.modeAt, hmode] at hsingle hdiff
      obtain ⟨rfl, rfl, hwas⟩ := eq_single_of_pair_apart hlength hc hsame hsingle hdiff
      exact ⟨rfl, hwas⟩

/-! ## RAW_TO_VOLTAGE -/

/-- RAW_TO_VOLTAGE responds the product as a number (42_config R213). -/
theorem exec_rawToVoltage (vref raw : Nat) (s : State) :
    exec (.rawToVoltage vref raw) s = .next (s.responded .ok (BitVec.ofNat 32 (raw * vref))) := by
  rw [BitVec.ofNat_mul]
  rfl

/-- The product of two 16-bit operands fits the response. -/
theorem toNat_product {vref raw : Nat} (hvref : vref < 65536) (hraw : raw < 65536) :
    (BitVec.ofNat 32 (raw * vref)).toNat = raw * vref := by
  have hfits : raw * vref < 65536 * 65536 := Nat.mul_lt_mul'' hraw hvref
  rw [BitVec.toNat_ofNat, Nat.mod_eq_of_lt hfits]

/-- Settles O31: the product does not overflow 32 bits. -/
theorem rawToVoltageIsTheExactProduct : Obligations.RawToVoltageIsTheExactProduct := by
  unfold Obligations.RawToVoltageIsTheExactProduct
  intro s vref raw hvref hraw
  exact ⟨_, toNat_product hvref hraw, exec_rawToVoltage vref raw s⟩

/-- A reading of at most 12 bits stays below full scale, by what its code is short of 4096. -/
theorem product_lt_fullScale {vref raw : Nat} (hraw : raw ≤ 4095) (hvref : 0 < vref) :
    raw * vref < 4096 * vref ∧ 4096 * vref - raw * vref = vref * (4096 - raw) := by
  refine ⟨Nat.mul_lt_mul_of_pos_right (by omega) hvref, ?_⟩
  rw [← Nat.sub_mul, Nat.mul_comm]

/-- Settles O32: each property is one of the product of numbers. -/
theorem rawToVoltageProperties : Obligations.RawToVoltageProperties := by
  unfold Obligations.RawToVoltageProperties
  refine ⟨fun s vref raw hvref hraw => ?_, fun s => ⟨rfl, rfl⟩⟩
  have hresult := toNat_product hvref hraw
  refine ⟨_, exec_rawToVoltage vref raw s, hresult, ?_, ?_, ?_⟩
  · intro hzero
    exact hresult.trans (Nat.mul_eq_zero.2 hzero)
  · intro hcode hpos
    simp only [State.responded, hresult]
    exact product_lt_fullScale hcode hpos
  · intro vref' raw' hle hle' hvref' hraw'
    refine ⟨_, exec_rawToVoltage vref' raw' s, ?_⟩
    simp only [State.responded, hresult, toNat_product hvref' hraw']
    exact Nat.mul_le_mul hle' hle

end Sys2Proof.Machine
end

section
/-! PROOFS. Sweeps: loops over devices and channels whose every turn is one read and one store. The
loops as one sequence of states, the tables that they fill row by row, and the reads themselves
(spec 00_scope R20, 40_selector R145, 43_sensor_array R241, R243, R244). -/

namespace Sys2Proof.Machine

/-! ## Loops that run through a sequence of states -/

section
variable {σ : Type} (f : Nat → σ) {n : Nat}

theorem forUpTo_sequence {body : Nat → σ → σ} (h : ∀ i < n, body i (f i) = f (i + 1)) :
    forUpTo n body (f 0) = f n :=
  forUpTo_keeps (fun i x => x = f i) body n (fun i _ hi hx => hx ▸ h i hi) (f 0) rfl

theorem repeatTimes_sequence {body : σ → σ} (h : ∀ i < n, body (f i) = f (i + 1)) :
    repeatTimes n body (f 0) = f n := by
  induction n with
  | zero => rfl
  | succ n ih =>
    rw [repeatTimes_succ, ih fun i hi => h i (Nat.lt_succ_of_lt hi), h n (Nat.lt_succ_self n)]

/-- A loop inside a loop, in a state that says how long the inner one is, runs through one sequence,
`cols` states for each row. -/
theorem forUpTo_rows_sequence {rows cols : Nat} {width : σ → Nat} {body : Nat → Nat → σ → σ}
    (hwidth : ∀ i, width (f i) = cols)
    (h : ∀ p < rows, ∀ c < cols, body p c (f (p * cols + c)) = f (p * cols + c + 1)) :
    forUpTo rows (fun p x => forUpTo (width x) (body p) x) (f 0) = f (rows * cols) := by
  have hrow : ∀ p < rows,
      forUpTo (width (f (p * cols))) (body p) (f (p * cols)) = f ((p + 1) * cols) := by
    intro p hp
    rw [hwidth, Nat.succ_mul]
    exact forUpTo_sequence (fun c => f (p * cols + c)) (h p hp)
  have hrows := forUpTo_sequence (fun p => f (p * cols))
    (body := fun p x => forUpTo (width x) (body p) x) hrow
  rwa [Nat.zero_mul] at hrows

end

/-! ## Places of a table, numbered row by row -/

theorem place_div {cols c : Nat} (p : Nat) (hc : c < cols) : (p * cols + c) / cols = p := by
  rw [Nat.add_comm, Nat.add_mul_div_right _ _ (Nat.zero_lt_of_lt hc), Nat.div_eq_of_lt hc,
    Nat.zero_add]

theorem place_mod {cols c : Nat} (p : Nat) (hc : c < cols) : (p * cols + c) % cols = c := by
  rw [Nat.add_comm, Nat.add_mul_mod_self_right, Nat.mod_eq_of_lt hc]

theorem place_lt {rows cols p c : Nat} (hp : p < rows) (hc : c < cols) :
    p * cols + c < rows * cols :=
  calc p * cols + c < p * cols + cols := by omega
    _ = (p + 1) * cols := (Nat.succ_mul p cols).symm
    _ ≤ rows * cols := Nat.mul_le_mul_right cols hp

theorem place_injective {cols p c p' c' : Nat} (hc : c < cols) (hc' : c' < cols)
    (h : p * cols + c = p' * cols + c') : p = p' ∧ c = c' :=
  ⟨by rw [← place_div p hc, h, place_div p' hc'], by rw [← place_mod p hc, h, place_mod p' hc']⟩

/-- The last place of a table is in its last row. -/
theorem lastPlace_div {rows cols : Nat} (hrows : 0 < rows) (hcols : 0 < cols) :
    (rows * cols - 1) / cols = rows - 1 := by
  rw [Nat.mul_comm, Nat.mul_sub_div 0 _ _ (Nat.mul_pos hcols hrows), Nat.zero_div]

/-! ## Tables filled row by row -/

section
variable {α : Type} {rows cols : Nat}

/-- The table whose entry (p, c) is `f p c`. -/
def tableOf (rows cols : Nat) (f : Nat → Nat → α) : List (List α) :=
  (List.range rows).map fun p => (List.range cols).map (f p)

theorem tableOf_congr {f g : Nat → Nat → α} (h : ∀ p < rows, ∀ c < cols, f p c = g p c) :
    tableOf rows cols f = tableOf rows cols g :=
  List.map_congr_left fun p hp => List.map_congr_left fun c hc =>
    h p (List.mem_range.1 hp) c (List.mem_range.1 hc)

theorem tableOf_cell {m : List (List α)} (hm : HasShape m rows cols) (x : α) :
    tableOf rows cols (cell x m) = m := by
  obtain ⟨rfl, hcols⟩ := hm
  apply List.ext_getElem
  · simp [tableOf]
  · intro p _ hp
    have hlength : m[p].length = cols := hcols _ (List.getElem_mem hp)
    apply List.ext_getElem
    · simp [tableOf, hlength]
    · intro c _ hc
      simp [tableOf, cell, List.getD_eq_getElem?_getD, hp, hc]

theorem setCell_tableOf {f g : Nat → Nat → α} {p c : Nat} (hp : p < rows)
    (h : ∀ p' c', c' < cols → ¬(p' = p ∧ c' = c) → g p' c' = f p' c') :
    setCell (tableOf rows cols f) p c (g p c) = tableOf rows cols g := by
  have hrow : (tableOf rows cols f).getD p [] = (List.range cols).map (f p) := by
    simp [tableOf, List.getD_eq_getElem?_getD, hp]
  have hset : ((List.range cols).map (f p)).set c (g p c) = (List.range cols).map (g p) := by
    apply List.ext_getElem
    · simp
    · intro c' _ h2
      have hc' : c' < cols := by simpa using h2
      by_cases hcc : c = c'
      · subst hcc
        simp
      · have hother := h p c' hc' fun hpc => hcc hpc.2.symm
        simp [hcc, hother]
  rw [setCell, hrow, hset]
  apply List.ext_getElem
  · simp [tableOf]
  · intro p' _ _
    by_cases hpp : p = p'
    · subst hpp
      simp [tableOf]
    · have hother : (List.range cols).map (g p') = (List.range cols).map (f p') :=
        List.map_congr_left fun c' hc' =>
          h p' c' (List.mem_range.1 hc') fun hpc => hpp hpc.1.symm
      simp [tableOf, hpp, hother]

/-- The entries of a table that `new` has overwritten up to place `m`. -/
def filled (cols m : Nat) (new old : Nat → Nat → α) (p c : Nat) : α :=
  if p * cols + c < m then new p c else old p c

theorem tableOf_filled_none (new old : Nat → Nat → α) :
    tableOf rows cols (filled cols 0 new old) = tableOf rows cols old :=
  tableOf_congr fun _ _ _ _ => if_neg (Nat.not_lt_zero _)

theorem tableOf_filled_all (new old : Nat → Nat → α) :
    tableOf rows cols (filled cols (rows * cols) new old) = tableOf rows cols new :=
  tableOf_congr fun _ hp _ hc => if_pos (place_lt hp hc)

section
variable (new old : Nat → Nat → α) {p c : Nat} (hp : p < rows) (hc : c < cols)
include hp hc

/-- The place next to be overwritten still holds its old entry. -/
theorem cell_filled (x : α) :
    cell x (tableOf rows cols (filled cols (p * cols + c) new old)) p c = old p c :=
  (cell_range _ x hp hc).trans (if_neg (Nat.lt_irrefl _))

theorem setCell_filled :
    setCell (tableOf rows cols (filled cols (p * cols + c) new old)) p c (new p c) =
      tableOf rows cols (filled cols (p * cols + c + 1) new old) := by
  have hnew : filled cols (p * cols + c + 1) new old p c = new p c := if_pos (Nat.lt_succ_self _)
  rw [← hnew]
  refine setCell_tableOf (g := filled cols (p * cols + c + 1) new old) hp ?_
  intro p' c' hc' hother
  have hne : p' * cols + c' ≠ p * cols + c := fun h => hother (place_injective hc' hc h)
  unfold filled
  exact if_congr (by omega) rfl rfl

end
end

/-! ## The reads of a sweep -/

/-- The state after the first `n` reads of a sweep from `s` on. -/
def State.swept (s : State) (dev chan : Nat → Nat) : Nat → State
  | 0 => s
  | n + 1 => s.afterReads (dev n) (n + 1) (s.sweepEvents dev chan (n + 1))

theorem swept_sameTables (s : State) (dev chan : Nat → Nat) (n : Nat) :
    SameTables s (s.swept dev chan n) := by
  cases n <;> exact {}

theorem swept_of_pos {s : State} {dev chan : Nat → Nat} {n d : Nat} (hn : 0 < n)
    (hd : dev (n - 1) = d) :
    s.swept dev chan n = s.afterReads d n (s.sweepEvents dev chan n) := by
  obtain ⟨m, rfl⟩ := Nat.exists_eq_add_one_of_ne_zero (Nat.ne_of_gt hn)
  rw [← hd]
  rfl

/-- The device of every read up to one of plate `p`, where each plate has `cols` reads in a row. -/
theorem validDevice_place {k : Config} {cols p c j : Nat} (hp : p < k.devices) (hc : c < cols)
    (hj : j ≤ p * cols + c) : validDevice k (j / cols + 1) = true := by
  have hrow : j / cols ≤ p := (Nat.div_le_div_right hj).trans_eq (place_div p hc)
  exact (validDevice_iff _ _).2 ⟨Nat.succ_pos _, Nat.lt_of_le_of_lt hrow hp⟩

/-- The next read of a sweep is of the next reading; its selection starts at the device of the read
before it (40_selector R145). -/
theorem readCore_swept {s : State} {dev : Nat → Nat} {n : Nat} (hline : SelectsOneLine s)
    (chan : Nat → Nat) (hdev : ∀ j ≤ n, validDevice s.cfg (dev j) = true) :
    readCore (dev n) (chan n) (s.swept dev chan n) =
      (s.readingAt n, s.swept dev chan (n + 1)) := by
  obtain ⟨hwf, hcor⟩ := hline
  obtain ⟨-, hmax, -⟩ := (config_wellFormed_iff _).1 hwf
  rw [State.swept, sweepEvents_succ]
  cases n with
  | zero => exact readCore_valid _ _ s (hdev 0 le_rfl) hmax hcor
  | succ n => exact readCore_afterReads _ _ _ hmax (hdev n (Nat.le_succ n)) (hdev (n + 1) le_rfl)

/-- The sum of the readings at the places `place 0` to `place (n - 1)`. -/
def State.readingSum (s : State) (place : Nat → Nat) (n : Nat) : Nat :=
  ((List.range n).map fun k => (s.readingAt (place k)).toNat).sum

theorem readingSum_succ (s : State) (place : Nat → Nat) (n : Nat) :
    s.readingSum place (n + 1) = s.readingSum place n + (s.readingAt (place n)).toNat := by
  simp [State.readingSum, List.range_succ]

end Sys2Proof.Machine
end

section
/-! PROOFS. Calibration as one sweep, and the baselines: a reset replaces them by the means, and no
other step writes them (spec 43_sensor_array R241, R247; 70_reset_and_hazards R341). -/

namespace Sys2Proof.Machine

/-! ## Calibration (43_sensor_array R241) -/

/-- The sum of the first `n` calibration readings of channel `c` of plate `p`. -/
def State.calSumAfter (s : State) (n p c : Nat) : Nat :=
  s.readingSum (fun t => (t * s.cfg.devices + p) * s.cfg.channels + c) n

/-- The accumulators when `n` passes are over and the next has done `m` reads. -/
def State.accAfter (s : State) (n m : Nat) : List (List (BitVec 32)) :=
  tableOf s.cfg.devices s.cfg.channels
    (filled s.cfg.channels m (fun p c => BitVec.ofNat 32 (s.calSumAfter (n + 1) p c))
      (fun p c => BitVec.ofNat 32 (s.calSumAfter n p c)))

/-- The reads of a calibration, the first `j` of them, with accumulators `acc`. -/
def State.calReadsDone (s : State) (acc : List (List (BitVec 32))) (j : Nat) : State :=
  ({ s with acc := acc } : State).swept (calDevice s.cfg) (fun j => j % s.cfg.channels) j

/-- A calibration from `s` on, when `n` passes are over and the next has done `m` reads. -/
def State.calibrating (s : State) (n m : Nat) : State :=
  s.calReadsDone (s.accAfter n m) (n * (s.cfg.devices * s.cfg.channels) + m)

section
variable {s : State} {n p c : Nat}

theorem ofNat_calSumAfter_succ :
    BitVec.ofNat 32 (s.calSumAfter (n + 1) p c) = BitVec.ofNat 32 (s.calSumAfter n p c) +
      (s.readingAt ((n * s.cfg.devices + p) * s.cfg.channels + c)).zeroExtend 32 := by
  rw [State.calSumAfter, readingSum_succ, BitVec.ofNat_add, BitVec.ofNat_toNat]
  rfl

/-- One read of a calibration adds its reading to its accumulator. -/
theorem accumulate_calReadsDone (hline : SelectsOneLine s) (hp : p < s.cfg.devices)
    (hc : c < s.cfg.channels) (acc : List (List (BitVec 32))) :
    accumulate p c (s.calReadsDone acc ((n * s.cfg.devices + p) * s.cfg.channels + c)) =
      s.calReadsDone
        (setCell acc p c (cell 0 acc p c +
          (s.readingAt ((n * s.cfg.devices + p) * s.cfg.channels + c)).zeroExtend 32))
        ((n * s.cfg.devices + p) * s.cfg.channels + c + 1) := by
  have hdevice : calDevice s.cfg ((n * s.cfg.devices + p) * s.cfg.channels + c) = p + 1 := by
    rw [calDevice, place_div _ hc, place_mod _ hp]
  have hread := readCore_swept (s := { s with acc := acc }) (dev := calDevice s.cfg)
    (n := (n * s.cfg.devices + p) * s.cfg.channels + c) hline (fun j => j % s.cfg.channels)
    (fun j _ => validDevice_calDevice (Nat.zero_lt_of_lt hp) j)
  rw [hdevice, place_mod _ hc] at hread
  rw [accumulate, State.calReadsDone, hread]
  rfl

theorem accumulate_calibrating (hline : SelectsOneLine s) (hp : p < s.cfg.devices)
    (hc : c < s.cfg.channels) :
    accumulate p c (s.calibrating n (p * s.cfg.channels + c)) =
      s.calibrating n (p * s.cfg.channels + c + 1) := by
  have hplace : n * (s.cfg.devices * s.cfg.channels) + (p * s.cfg.channels + c) =
      (n * s.cfg.devices + p) * s.cfg.channels + c := by
    ring
  rw [State.calibrating, hplace, accumulate_calReadsDone hline hp hc, State.accAfter,
    cell_filled _ _ hp hc, ← ofNat_calSumAfter_succ, setCell_filled _ _ hp hc, ← hplace]
  rfl

theorem calibrating_cfg (m : Nat) : (s.calibrating n m).cfg = s.cfg :=
  (swept_sameTables _ _ _ _).cfg

/-- A sample pass is one sweep over all devices and channels. -/
theorem samplePass_calibrating (hline : SelectsOneLine s) :
    samplePass (s.calibrating n 0) = s.calibrating (n + 1) 0 := by
  have hacc : s.accAfter n (s.cfg.devices * s.cfg.channels) = s.accAfter (n + 1) 0 := by
    rw [State.accAfter, tableOf_filled_all, State.accAfter, tableOf_filled_none]
  have hplace : n * (s.cfg.devices * s.cfg.channels) + s.cfg.devices * s.cfg.channels =
      (n + 1) * (s.cfg.devices * s.cfg.channels) := (Nat.succ_mul _ _).symm
  have hpass := forUpTo_rows_sequence (s.calibrating n) (width := fun t => t.cfg.channels)
    (fun m => congrArg Config.channels (calibrating_cfg m))
    (fun p hp c hc => accumulate_calibrating (p := p) (c := c) hline hp hc)
  rw [samplePass, calibrating_cfg, hpass, State.calibrating, hacc, hplace]
  rfl

theorem calibrating_first :
    s.calibrating 0 0 =
      { s with acc := List.replicate s.cfg.devices (List.replicate s.cfg.channels 0) } := by
  have hacc : s.accAfter 0 0 =
      List.replicate s.cfg.devices (List.replicate s.cfg.channels 0) := by
    rw [State.accAfter, tableOf_filled_none]
    simp [tableOf, State.calSumAfter, State.readingSum]
  rw [State.calibrating, hacc, Nat.zero_mul]
  rfl

/-- The mean of an accumulator, which no sum overflows, is the mean of its readings. -/
theorem mean_of_accumulator (h : s.cfg.wellFormed = true) (hp : p < s.cfg.devices)
    (hc : c < s.cfg.channels) :
    fdiv (cell 0 (s.accAfter s.cfg.calN 0) p c).toNat s.cfg.calN =
      calSum s.cfg s.nextByte p c / s.cfg.calN := by
  obtain ⟨-, -, -, -, -, hcal, -⟩ := (config_wellFormed_iff _).1 h
  have hsum : calSum s.cfg s.nextByte p c < 2 ^ 32 :=
    calc calSum s.cfg s.nextByte p c ≤ s.cfg.calN * 4095 := calSum_le _ _ p c
      _ < 2 ^ 32 := by omega
  have hcell : cell 0 (s.accAfter s.cfg.calN 0) p c =
      BitVec.ofNat 32 (calSum s.cfg s.nextByte p c) := by
    rw [State.accAfter, tableOf_filled_none]
    exact cell_range _ 0 hp hc
  rw [hcell, BitVec.toNat_ofNat, Nat.mod_eq_of_lt hsum]
  rfl

/-- The passes of a calibration are one sweep. -/
theorem samplePasses_eq (hline : SelectsOneLine s) :
    repeatTimes s.cfg.calN samplePass
        { s with acc := List.replicate s.cfg.devices (List.replicate s.cfg.channels 0) } =
      s.calibrating s.cfg.calN 0 := by
  rw [← calibrating_first]
  exact repeatTimes_sequence (fun n => s.calibrating n 0) fun _ _ => samplePass_calibrating hline

/-- A calibration stores the mean of each channel's readings (43_sensor_array R241). -/
theorem calibrate_base (hline : SelectsOneLine s) :
    (calibrate s).base = calBase s.cfg s.nextByte := by
  have hacc : (s.calibrating s.cfg.calN 0).acc = s.accAfter s.cfg.calN 0 :=
    (swept_sameTables _ _ _ _).acc
  rw [calibrate, samplePasses_eq hline, storeBaselines, calibrating_cfg, hacc]
  exact tableOf_congr fun p hp c hc => by rw [mean_of_accumulator hline.1 hp hc]

end

/-! ## The reset (70_reset_and_hazards R341, R353) -/

/-- INIT calibrates from a filled chain, and every answer is still to come. -/
theorem initSequence_base (s : State) (hwf : s.cfg.wellFormed = true) :
    (initSequence s).base = calBase s.cfg s.nextByte := by
  have hpos : s.cfg.devices ≠ 0 := Nat.ne_of_gt ((config_wellFormed_iff _).1 hwf).1
  have hline : SelectsOneLine
      (clearTables (srSetAll true { s with phase := .init, busHeld := false })) := by
    rw [srSetAll_eq, if_neg hpos]
    exact ⟨hwf, corresponds_of_deselected rfl rfl⟩
  have hbase := calibrate_base hline
  rw [srSetAll_eq] at hbase
  rw [initSequence, srSetAll_eq]
  exact hbase

/-- Closing a bracket takes no answer. -/
theorem nextByte_enterReset (s : State) : (enterReset s).nextByte = s.nextByte := by
  unfold enterReset
  split <;> rfl

theorem resetPulse_base (s : State) (hwf : s.cfg.wellFormed = true) :
    (resetPulse s).base = calBase s.cfg s.nextByte := by
  rw [resetPulse, initSequence_base _ (by rwa [enterReset_cfg]), enterReset_cfg,
    nextByte_enterReset]

theorem initSequence_cfg (s : State) : (initSequence s).cfg = s.cfg := by
  have hcal := (calibrate_writes_base
    (clearTables (srSetAll true { s with phase := .init, busHeld := false }))).cfg
  exact hcal.trans (srSetAll_sameTables true _).cfg

/-! ## The statement -/

/-- No step but a reset writes the baselines (43_sensor_array R247). -/
theorem base_of_step {s t : State} (hstep : step s = .next t)
    (hreset : s.pending.head? ≠ some .reset) : t.base = s.base := by
  cases stepsTo_of_step hstep with
  | idle _ => rfl
  | command _ _ _ hexec =>
    obtain ⟨st, r, rfl⟩ := exec_responds hexec
    exact (work_writesOwnTables _ _).base
  | illegal _ _ _ => rfl
  | response _ =>
    unfold takeResponse
    split <;> rfl
  | reset hpending => exact absurd (by rw [hpending]; rfl) hreset

/-- Settles O39: by the ways a step goes on, and for a reset by its calibration and the tables that
INIT clears before it. -/
theorem baselinesChangeOnlyAtReset : Obligations.BaselinesChangeOnlyAtReset := by
  unfold Obligations.BaselinesChangeOnlyAtReset
  refine ⟨fun s t => base_of_step, fun s rest hwf hpending => ?_⟩
  have hbase := resetPulse_base { s with pending := rest } hwf
  have hcleared := tablesCleared_initSequence (enterReset { s with pending := rest })
  have hrawbuf := hcleared.rawbuf
  have hxout := hcleared.xout
  have hyout := hcleared.yout
  rw [initSequence_cfg, enterReset_cfg] at hrawbuf hxout hyout
  exact ⟨_, step_of_pending hpending, hbase, hcleared.mode, hcleared.chbuf, hrawbuf, hxout, hyout⟩

end Sys2Proof.Machine
end

section
/-! PROOFS. SA_READ_ALL_RAW: one sweep over all devices and channels, and the buffer that it fills
(spec 43_sensor_array R244). -/

namespace Sys2Proof.Machine

/-- The reads of SA_READ_ALL_RAW, the first `j` of them, with buffer `m`. -/
def State.rawReadsDone (s : State) (m : List (List Half)) (j : Nat) : State :=
  ({ s with rawbuf := m } : State).swept (fun j => j / s.cfg.channels + 1)
    (fun j => j % s.cfg.channels) j

/-- RAWBUF after the first `j` reads. -/
def State.rawbufRead (s : State) (j : Nat) : List (List Half) :=
  tableOf s.cfg.devices s.cfg.channels
    (filled s.cfg.channels j (fun p c => s.readingAt (p * s.cfg.channels + c)) (cell 0 s.rawbuf))

section
variable {s : State} {p c : Nat}

theorem rawReadsDone_cfg (m : List (List Half)) (j : Nat) : (s.rawReadsDone m j).cfg = s.cfg :=
  (swept_sameTables _ _ _ _).cfg

/-- One read of the sweep puts its reading in place. -/
theorem readIntoRawbuf_rawReadsDone (hline : SelectsOneLine s) (hp : p < s.cfg.devices)
    (hc : c < s.cfg.channels) (m : List (List Half)) :
    readIntoRawbuf p c (s.rawReadsDone m (p * s.cfg.channels + c)) =
      s.rawReadsDone (setCell m p c (s.readingAt (p * s.cfg.channels + c)))
        (p * s.cfg.channels + c + 1) := by
  have hread := readCore_swept (s := { s with rawbuf := m }) (n := p * s.cfg.channels + c)
    (dev := fun j => j / s.cfg.channels + 1) hline (fun j => j % s.cfg.channels)
    (fun j hj => validDevice_place hp hc hj)
  simp only [place_div _ hc, place_mod _ hc] at hread
  rw [readIntoRawbuf, State.rawReadsDone, hread]
  rfl

/-- The loops of SA_READ_ALL_RAW are one sweep. -/
theorem rawSweep_eq (hline : SelectsOneLine s)
    (hraw : HasShape s.rawbuf s.cfg.devices s.cfg.channels) :
    rawSweep s = s.rawReadsDone (s.rawbufRead (s.cfg.devices * s.cfg.channels))
      (s.cfg.devices * s.cfg.channels) := by
  have hfirst : s.rawReadsDone (s.rawbufRead 0) 0 = s := by
    rw [State.rawbufRead, tableOf_filled_none, tableOf_cell hraw]
    rfl
  have hsweep := forUpTo_rows_sequence (fun j => s.rawReadsDone (s.rawbufRead j) j)
    (width := fun t => t.cfg.channels) (body := readIntoRawbuf) (rows := s.cfg.devices)
    (fun j => congrArg Config.channels (rawReadsDone_cfg _ j))
    (fun p hp c hc => by
      rw [readIntoRawbuf_rawReadsDone hline hp hc]
      exact congrArg (s.rawReadsDone · _) (setCell_filled _ _ hp hc))
  rwa [hfirst] at hsweep

end

/-- Settles O34: the sweep, after which the last reading is of the last device. -/
theorem saReadAllRawFillsTheRawBuffer : Obligations.SaReadAllRawFillsTheRawBuffer := by
  unfold Obligations.SaReadAllRawFillsTheRawBuffer
  intro s hwf hshaped hcor
  obtain ⟨hpos, -, hchannels, -⟩ := (config_wellFormed_iff _).1 hwf
  obtain ⟨-, -, -, -, hraw, -⟩ := hshaped
  have hch : 0 < s.cfg.channels := by omega
  have hlast : (s.cfg.devices * s.cfg.channels - 1) / s.cfg.channels + 1 = s.cfg.devices := by
    rw [lastPlace_div hpos hch, Nat.sub_add_cancel hpos]
  have hsweep := rawSweep_eq ⟨hwf, hcor⟩ hraw
  rw [State.rawReadsDone, swept_of_pos (Nat.mul_pos hpos hch) hlast, State.rawbufRead,
    tableOf_filled_all] at hsweep
  exact congrArg (fun t => Host.Outcome.next (respond .ok 0 t)) hsweep

end Sys2Proof.Machine
end

section
/-! PROOFS. SA_READ_ALL: the sums of a plate, its differences, and the sweep over all plates (spec
43_sensor_array R242, R243). -/

namespace Sys2Proof.Machine

/-! ## The reads and the sums -/

/-- The reads of SA_READ_ALL, the first `j` of them, with X and Y slots `x` and `y`. -/
def State.xyReadsDone (s : State) (x y : List Half) (j : Nat) : State :=
  ({ s with xout := x, yout := y } : State).swept (fun j => j / (4 * s.cfg.avgN) + 1)
    (fun j => j % 4) j

/-- The sum of the first `n` samples of channel `c` of plate `p`. -/
def State.plateSum (s : State) (p n c : Nat) : Nat :=
  s.readingSum (fun k => (p * s.cfg.avgN + k) * 4 + c) n

/-- The sums of plate `p` after `n` passes. -/
def State.plateSums (s : State) (p n : Nat) : List Nat := (List.range 4).map (s.plateSum p n)

/-- The sums of plate `p` and the state, when `n` passes are over and the next has done `m`
reads. -/
def State.sampling (s : State) (x y : List Half) (p n m : Nat) : List Nat × State :=
  ((List.range m).map (s.plateSum p (n + 1)) ++ (s.plateSums p n).drop m,
    s.xyReadsDone x y ((p * s.cfg.avgN + n) * 4 + m))

section
variable {s : State} {x y : List Half} {p : Nat}

/-- A sample of a plate has its place among the reads of the plate. -/
theorem samplePlace_eq (p n c : Nat) :
    (p * s.cfg.avgN + n) * 4 + c = p * (4 * s.cfg.avgN) + (n * 4 + c) := by
  ring

theorem xyReadsDone_sameTables (j : Nat) :
    SameTables { s with xout := x, yout := y } (s.xyReadsDone x y j) := swept_sameTables _ _ _ _

theorem xyReadsDone_store (x' y' : List Half) (j : Nat) :
    { s.xyReadsDone x y j with xout := x', yout := y' } = s.xyReadsDone x' y' j := by
  cases j <;> rfl

theorem sampling_none (n : Nat) :
    s.sampling x y p n 0 = (s.plateSums p n, s.xyReadsDone x y ((p * s.cfg.avgN + n) * 4)) := rfl

theorem sampling_all (n : Nat) : s.sampling x y p n 4 = s.sampling x y p (n + 1) 0 := by
  have hplace : (p * s.cfg.avgN + n) * 4 + 4 = (p * s.cfg.avgN + (n + 1)) * 4 := by ring
  rw [sampling_none, State.sampling, hplace, List.drop_eq_nil_of_le (by simp [State.plateSums]),
    List.append_nil]
  rfl

theorem readCore_xyReadsDone (hline : SelectsOneLine s) (hp : p < s.cfg.devices) {n c : Nat}
    (hn : n < s.cfg.avgN) (hc : c < 4) :
    readCore (p + 1) c (s.xyReadsDone x y ((p * s.cfg.avgN + n) * 4 + c)) =
      (s.readingAt ((p * s.cfg.avgN + n) * 4 + c),
        s.xyReadsDone x y ((p * s.cfg.avgN + n) * 4 + c + 1)) := by
  have hplace : n * 4 + c < 4 * s.cfg.avgN := by omega
  have hread := readCore_swept (s := { s with xout := x, yout := y })
    (dev := fun j => j / (4 * s.cfg.avgN) + 1) (n := (p * s.cfg.avgN + n) * 4 + c) hline
    (fun j => j % 4)
    (fun j hj => validDevice_place hp hplace (hj.trans_eq (samplePlace_eq p n c)))
  rwa [place_mod _ hc, samplePlace_eq, place_div p hplace, ← samplePlace_eq] at hread

/-- One read of a sample pass adds its reading to the sum of its channel. -/
theorem addReading_sampling (hline : SelectsOneLine s) (hp : p < s.cfg.devices) {n c : Nat}
    (hn : n < s.cfg.avgN) (hc : c < 4) :
    addReading p c (s.sampling x y p n c) = s.sampling x y p n (c + 1) := by
  have hold : ((List.range c).map (s.plateSum p (n + 1)) ++ (s.plateSums p n).drop c).getD c 0 =
      s.plateSum p n c := by
    rw [List.getD_append_right _ _ _ _ (by simp)]
    simp [State.plateSums, List.getD_eq_getElem?_getD, hc]
  have hsum : s.plateSum p (n + 1) c =
      s.plateSum p n c + (s.readingAt ((p * s.cfg.avgN + n) * 4 + c)).toNat :=
    readingSum_succ s _ n
  have hset := set_overwritten (s.plateSum p (n + 1)) (s.plateSums p n) (n := c)
    (by simpa [State.plateSums] using hc)
  rw [hsum] at hset
  rw [addReading, State.sampling, readCore_xyReadsDone hline hp hn hc, hold]
  exact congrArg (·, s.xyReadsDone x y ((p * s.cfg.avgN + n) * 4 + c + 1)) hset

/-- The sample passes over a plate, whose reads follow those of the plates before it. -/
theorem samplePlate_xyReadsDone (hline : SelectsOneLine s) (hp : p < s.cfg.devices) :
    samplePlate p (s.xyReadsDone x y (p * s.cfg.avgN * 4)) =
      (s.plateSums p s.cfg.avgN, s.xyReadsDone x y ((p + 1) * s.cfg.avgN * 4)) := by
  have hpass : ∀ n < s.cfg.avgN,
      forUpTo Config.plateChannels (addReading p) (s.sampling x y p n 0) =
        s.sampling x y p (n + 1) 0 := fun n hn =>
    (forUpTo_sequence (s.sampling x y p n) fun c hc => addReading_sampling hline hp hn hc).trans
      (sampling_all n)
  have hpasses := repeatTimes_sequence (fun n => s.sampling x y p n 0) hpass
  have hcfg := (xyReadsDone_sameTables (s := s) (x := x) (y := y) (p * s.cfg.avgN * 4)).cfg
  have hend : (p * s.cfg.avgN + s.cfg.avgN) * 4 = (p + 1) * s.cfg.avgN * 4 := by ring
  rw [samplePlate, hcfg]
  rw [sampling_none, sampling_none, hend] at hpasses
  exact hpasses

/-! ## The plates -/

/-- One plate of SA_READ_ALL overwrites its two slots. -/
theorem readPlate_xyReadsDone (hline : SelectsOneLine s) (hp : p < s.cfg.devices) :
    readPlate p (s.xyReadsDone x y (p * s.cfg.avgN * 4)) =
      s.xyReadsDone (x.set p (BitVec.ofInt 16 (s.plateXY p).1))
        (y.set p (BitVec.ofInt 16 (s.plateXY p).2)) ((p + 1) * s.cfg.avgN * 4) := by
  have htables := xyReadsDone_sameTables (s := s) (x := x) (y := y)
  have hmeans : ((s.plateSums p s.cfg.avgN).map fun sum =>
      fdiv sum (s.xyReadsDone x y (p * s.cfg.avgN * 4)).cfg.avgN) = s.plateMeans p := by
    rw [(htables _).cfg]
    exact List.map_map
  have hbaselines : plateBaselines p (s.xyReadsDone x y (p * s.cfg.avgN * 4)) =
      plateBaselines p s := by
    simp only [plateBaselines, State.baseAt, (htables _).base]
  rw [readPlate, samplePlate_xyReadsDone hline hp]
  simp only [hmeans, hbaselines, (htables _).xout, (htables _).yout]
  exact xyReadsDone_store _ _ _

/-- The slots `v` when the plates before `p` have theirs from `f`. -/
def slotsAfter (f : Nat → Half) (v : List Half) (p : Nat) : List Half :=
  (List.range p).map f ++ v.drop p

theorem slotsAfter_all (f : Nat → Half) (v : List Half) :
    slotsAfter f v v.length = (List.range v.length).map f := by
  rw [slotsAfter, List.drop_length, List.append_nil]

/-- The state of SA_READ_ALL after the plates before `p`. -/
def State.platesRead (s : State) (p : Nat) : State :=
  s.xyReadsDone (slotsAfter (fun p => BitVec.ofInt 16 (s.plateXY p).1) s.xout p)
    (slotsAfter (fun p => BitVec.ofInt 16 (s.plateXY p).2) s.yout p) (p * s.cfg.avgN * 4)

/-- The plates of SA_READ_ALL are one sweep. -/
theorem forUpTo_readPlate (hline : SelectsOneLine s) (hx : s.xout.length = s.cfg.devices)
    (hy : s.yout.length = s.cfg.devices) :
    forUpTo s.cfg.devices readPlate s =
      s.xyReadsDone ((List.range s.cfg.devices).map fun p => BitVec.ofInt 16 (s.plateXY p).1)
        ((List.range s.cfg.devices).map fun p => BitVec.ofInt 16 (s.plateXY p).2)
        (s.cfg.devices * s.cfg.avgN * 4) := by
  have hfirst : s.platesRead 0 = s := by
    rw [State.platesRead, Nat.zero_mul]
    rfl
  have hsweep := forUpTo_sequence s.platesRead (body := readPlate) (n := s.cfg.devices) ?_
  · rwa [hfirst, State.platesRead, ← hx, slotsAfter_all, hx, ← hy, slotsAfter_all, hy] at hsweep
  · intro p hp
    rw [State.platesRead, readPlate_xyReadsDone hline hp, slotsAfter, slotsAfter,
      set_overwritten _ _ (hp.trans_eq hx.symm), set_overwritten _ _ (hp.trans_eq hy.symm)]
    rfl

end

/-- Settles O35: the sweep over the plates, after which the last reading is of the last device. -/
theorem saReadAllStoresTheDifferences : Obligations.SaReadAllStoresTheDifferences := by
  unfold Obligations.SaReadAllStoresTheDifferences
  intro s hwf hshaped hcor
  obtain ⟨hpos, -, -, -, -, -, havg, -⟩ := (config_wellFormed_iff _).1 hwf
  obtain ⟨-, -, -, -, -, hx, hy⟩ := hshaped
  have hreads : s.cfg.devices * s.cfg.avgN * 4 = s.cfg.devices * (4 * s.cfg.avgN) := by ring
  have hlast : (s.cfg.devices * s.cfg.avgN * 4 - 1) / (4 * s.cfg.avgN) + 1 = s.cfg.devices := by
    rw [hreads, lastPlace_div hpos (by omega), Nat.sub_add_cancel hpos]
  have hsweep := forUpTo_readPlate ⟨hwf, hcor⟩ hx hy
  rw [State.xyReadsDone, swept_of_pos (by positivity) hlast] at hsweep
  exact congrArg (fun t => Host.Outcome.next (respond .ok 0 t)) hsweep

end Sys2Proof.Machine
end

section
/-! PROOFS. SA_READ_CHANNEL, the differencer, and the ranges of the sensor array (spec
43_sensor_array R242, R245, R246; 00_scope R18). -/

namespace Sys2Proof.Machine

/-! ## SA_READ_CHANNEL (43_sensor_array R245) -/

/-- A reading less a baseline, modulo 2^16. -/
theorem toNat_wrappedDifference (v : Half) (b : BitVec 12) :
    ((zext32 (v - b.zeroExtend 16)).toNat : Int) = (v.toNat - b.toNat : Int) % 65536 := by
  have hv := v.isLt
  have hb := b.isLt
  have hdiff : (zext32 (v - b.zeroExtend 16)).toNat = (65536 - b.toNat + v.toNat) % 65536 := by
    rw [zext32, BitVec.toNat_setWidth_of_le (by decide), BitVec.toNat_sub,
      BitVec.toNat_setWidth_of_le (by decide)]
  omega

section
variable {s : State} {dev ch : Nat}

theorem exec_saReadChannel_valid (hch : configuredChannel s.cfg ch = true)
    (hdev : validDevice s.cfg dev = true) :
    exec (.saReadChannel dev ch) s =
      .next (respond .ok
        (zext32 ((readCore dev ch s).1 - (s.baseAt (dev - 1) ch).zeroExtend 16))
        (readCore dev ch s).2) := by
  have hbase : (readCore dev ch s).2.baseAt (dev - 1) ch = s.baseAt (dev - 1) ch := by
    rw [State.baseAt, (readCore_sameTables dev ch s).base, State.baseAt]
  rw [exec, execSaReadChannel, if_pos hch, if_pos hdev, hbase]

theorem exec_saReadChannel_invalid (hch : configuredChannel s.cfg ch = true)
    (hdev : ¬validDevice s.cfg dev = true) :
    exec (.saReadChannel dev ch) s = .next (respond .ok 0 (readCore dev ch s).2) := by
  rw [exec, execSaReadChannel, if_pos hch, if_neg hdev]

theorem exec_saReadChannel_unconfigured (hch : ¬configuredChannel s.cfg ch = true) :
    exec (.saReadChannel dev ch) s = .next (raise .channelError s) := by
  rw [exec, execSaReadChannel, if_neg hch]

end

/-- Settles O36: one read of a device that there is, and the difference as a number. -/
theorem saReadChannelSubtractsAndWraps : Obligations.SaReadChannelSubtractsAndWraps := by
  unfold Obligations.SaReadChannelSubtractsAndWraps
  intro s dev ch hwf hcor hpos hdev hch
  obtain ⟨-, hmax, -⟩ := (config_wellFormed_iff _).1 hwf
  have hvalid : validDevice s.cfg dev = true := (validDevice_iff _ _).2 ⟨hpos, hdev⟩
  refine ⟨_, toNat_wrappedDifference (s.readingAt 0) (s.baseAt (dev - 1) ch), ?_⟩
  rw [exec_saReadChannel_valid (decide_eq_true hch) hvalid,
    readCore_valid dev ch s hvalid hmax hcor]
  rfl

/-! ## The differencer (43_sensor_array R242) -/

/-- The division of 00_scope R18 is Lean's own truncating division. -/
theorem tdiv_eq (a b : Int) : tdiv a b = a.tdiv b := by
  rw [← Int.sign_mul_natAbs (a.tdiv b), Int.sign_tdiv, Int.natAbs_tdiv, tdiv]
  split
  next hlt => rw [Nat.div_eq_of_lt hlt, Int.natCast_zero, mul_zero, zero_mul]
  next => rfl

/-- Settles O37: the four averages, each a truncating division. -/
theorem differencerPairsTheChannels : Obligations.DifferencerPairsTheChannels := by
  unfold Obligations.DifferencerPairsTheChannels
  intro v0 v1 v2 v3 b0 b1 b2 b3
  simp only [plateDiff, pairAverage, tdiv_eq]
  rfl

/-! ## Ranges (43_sensor_array R246) -/

theorem getD_le_of_forall_le {l : List Nat} {b : Nat} (h : ∀ x ∈ l, x ≤ b) (i : Nat) :
    l.getD i 0 ≤ b := by
  by_cases hi : i < l.length
  · rw [List.getD_eq_getElem _ _ hi]
    exact h _ (List.getElem_mem hi)
  · rw [List.getD_eq_default _ _ (Nat.le_of_not_lt hi)]
    exact Nat.zero_le b

theorem readingSum_le (s : State) (place : Nat → Nat) (n : Nat) :
    s.readingSum place n ≤ n * 4095 := by
  induction n with
  | zero => exact Nat.zero_le _
  | succ n ih =>
    have hreading : (s.readingAt (place n)).toNat ≤ 4095 := isReading_adcDecode _ _
    rw [readingSum_succ]
    omega

/-- A sample average is in the range of a reading. -/
theorem plateMeans_le (s : State) (p : Nat) : ∀ v ∈ s.plateMeans p, v ≤ 4095 := by
  intro v hv
  obtain ⟨c, -, rfl⟩ := List.mem_map.1 hv
  exact Nat.div_le_of_le_mul (readingSum_le s _ _)

/-- The values inside DIFF, of readings and baselines in range. -/
theorem differencer_bounds {v bp : List Nat} (hv : ∀ x ∈ v, x ≤ 4095) (hb : ∀ x ∈ bp, x ≤ 4095) :
    (∀ i, -4095 ≤ corrected v bp i ∧ corrected v bp i ≤ 4095) ∧
    (∀ i j, -8190 ≤ corrected v bp i + corrected v bp j ∧
      corrected v bp i + corrected v bp j ≤ 8190 ∧
      -4095 ≤ pairAverage (corrected v bp) i j ∧ pairAverage (corrected v bp) i j ≤ 4095) := by
  have hcorrected : ∀ i, -4095 ≤ corrected v bp i ∧ corrected v bp i ≤ 4095 := by
    intro i
    have hvi := getD_le_of_forall_le hv i
    have hbi := getD_le_of_forall_le hb i
    unfold corrected
    omega
  refine ⟨hcorrected, fun i j => ?_⟩
  have hi := hcorrected i
  have hj := hcorrected j
  exact ⟨by omega, by omega,
    pairAverage_bounds (getD_le_of_forall_le hv) (getD_le_of_forall_le hb) i j⟩

/-- X and Y are differences of two pair averages. -/
theorem plateDiff_bounds {v bp : List Nat} (hv : ∀ x ∈ v, x ≤ 4095) (hb : ∀ x ∈ bp, x ≤ 4095) :
    (-8190 ≤ (plateDiff v bp).1 ∧ (plateDiff v bp).1 ≤ 8190) ∧
      (-8190 ≤ (plateDiff v bp).2 ∧ (plateDiff v bp).2 ≤ 8190) := by
  have haverage := pairAverage_bounds (getD_le_of_forall_le hv) (getD_le_of_forall_le hb)
  have h01 := haverage 0 1
  have h23 := haverage 2 3
  have h13 := haverage 1 3
  have h02 := haverage 0 2
  simp only [plateDiff]
  omega

/-- The 16 bits of a slot hold such a difference whole. -/
theorem toInt_s16 {v : Int} (h : -8190 ≤ v ∧ v ≤ 8190) : (s16 v).toInt = v :=
  BitVec.toInt_ofInt_eq_self (by decide) (by omega) (by omega)

/-- What an SA_READ_CHANNEL that answers OK can respond: 0 for an invalid device, else a reading
less a baseline, each of 12 bits. -/
theorem saReadChannel_result_range {s t : State} {dev ch : Nat}
    (hexec : exec (.saReadChannel dev ch) s = .next t) (hok : t.rspStatus = .ok) :
    t.rspResult.toNat ≤ 0x0FFF ∨ 0xF001 ≤ t.rspResult.toNat ∧ t.rspResult.toNat ≤ 0xFFFF := by
  by_cases hch : configuredChannel s.cfg ch = true
  · by_cases hdev : validDevice s.cfg dev = true
    · rw [exec_saReadChannel_valid hch hdev] at hexec
      cases hexec
      have hreading : (readCore dev ch s).1.toNat ≤ 4095 := isReading_readCore dev ch s
      have hbase := (s.baseAt (dev - 1) ch).isLt
      have hresult := toNat_wrappedDifference (readCore dev ch s).1 (s.baseAt (dev - 1) ch)
      rw [respond_rspResult]
      omega
    · rw [exec_saReadChannel_invalid hch hdev] at hexec
      cases hexec
      exact .inl (Nat.zero_le _)
  · rw [exec_saReadChannel_unconfigured hch] at hexec
    cases hexec
    cases hok

/-- Settles O38: row by row; the four bounds of X and Y are reached by closed readings. -/
theorem rangesOfTheSensorArray : Obligations.RangesOfTheSensorArray := by
  unfold Obligations.RangesOfTheSensorArray
  refine ⟨isReading_adcDecode, fun k byte p c _ hp hc => ?_, plateMeans_le, fun v bp hv hb => ?_,
    fun s t dev ch => saReadChannel_result_range, by decide, by decide, by decide, by decide⟩
  · exact ⟨Nat.div_le_of_le_mul (calSum_le k byte p c), baseAt_ready k byte hp hc⟩
  · obtain ⟨hcorrected, hpairs⟩ := differencer_bounds hv hb
    obtain ⟨hx, hy⟩ := plateDiff_bounds hv hb
    exact ⟨hcorrected, hpairs, hx.1, hx.2, hy.1, hy.2, toInt_s16 hx, toInt_s16 hy⟩

end Sys2Proof.Machine
end

section
/-! PROOFS. Commands that are not accepted or not decoded, the errors of those that are, each with
the one check that raises it, and the invalid device, which is no error (spec 60_exceptions R300 to
R313). -/

namespace Sys2Proof.Machine

/-! ## The command port (60_exceptions R302, R313) -/

/-- An accepted illegal word is answered, and that is all (60_exceptions R302). -/
theorem acceptCommand_of_illegal {s : State} {w : Command} (hready : cmdReady s = true)
    (hillegal : IllegalWord w) : acceptCommand w s = .next (s.responded .illegalCmd 0) := by
  obtain ⟨e, he⟩ := (exactlyTheIllegalWordsAreRefused w).1.2 hillegal
  rw [acceptCommand_of_ready hready, he]
  rfl

/-- Every accepted word is answered, whether it decodes or not (60_exceptions R300). -/
theorem acceptCommand_goes_on {s : State} (hready : cmdReady s = true) (w : Command) :
    ∃ t, acceptCommand w s = .next t := by
  rw [acceptCommand_of_ready hready]
  cases hdecode : decodeHost w with
  | rejected e => exact ⟨_, rfl⟩
  | instr i =>
    obtain ⟨st, r, hexec⟩ :=
      exec_command_responds { s with phase := .busy } (isCommand_of_decodeHost hdecode)
    exact ⟨_, hexec⟩

/-- A command that finds the port not ready is refused by name (60_exceptions R313; log 8). -/
theorem step_of_not_ready {s : State} {w : Command} {rest : List Move}
    (hpending : s.pending = .command w :: rest) (hready : cmdReady s = false) :
    step s = .refused .commandWhileNotReady := by
  rw [step_of_pending hpending]
  exact acceptCommand_of_not_ready (s := { s with pending := rest }) hready w

/-- Settles O10: the phase is READY before the word and after its answer. -/
theorem illegalWordOnlyResponds : Obligations.IllegalWordOnlyResponds := by
  unfold Obligations.IllegalWordOnlyResponds
  intro s w rest hpending hphase hrsp hillegal
  have hready : cmdReady { s with pending := rest } = true := (cmdReady_iff _).2 ⟨hphase, hrsp⟩
  rw [step_of_pending hpending, serve, acceptCommand_of_illegal hready hillegal,
    State.responded, ← hphase]

/-- Settles O11: in either case `cmd_ready` = 0. -/
theorem noMoveForACommandBeforeReady : Obligations.NoMoveForACommandBeforeReady := by
  unfold Obligations.NoMoveForACommandBeforeReady
  intro s w rest hpending hbusy
  refine step_of_not_ready hpending (Bool.eq_false_iff.2 fun hready => ?_)
  obtain ⟨hphase, hrsp⟩ := (cmdReady_iff s).1 hready
  rcases hbusy with hbusy | hbusy
  · exact hbusy hphase
  · exact Bool.false_ne_true (hrsp.symm.trans hbusy)

/-- Settles O47: by the soonest move; a good state is READY, so only a pending response lowers
`cmd_ready`. -/
theorem goodStatesStopOnlyWithoutAMove : Obligations.GoodStatesStopOnlyWithoutAMove := by
  unfold Obligations.GoodStatesStopOnlyWithoutAMove
  intro s hgood
  obtain ⟨-, -, -, hphase⟩ := (good_iff s).1 hgood
  cases hpending : s.pending with
  | nil => exact .inl ⟨s, by rw [step, serveNext, hpending]⟩
  | cons m rest =>
    have hstep := step_of_pending hpending
    cases m with
    | takeResponse => exact .inl ⟨_, hstep⟩
    | reset => exact .inl ⟨_, hstep⟩
    | command w =>
      cases hrsp : s.rspValid with
      | false =>
        have hready : cmdReady { s with pending := rest } = true :=
          (cmdReady_iff _).2 ⟨hphase, hrsp⟩
        rw [hstep]
        exact .inl (acceptCommand_goes_on hready w)
      | true =>
        exact .inr ⟨rfl, ⟨w, rest, rfl⟩,
          noMoveForACommandBeforeReady s w rest hpending (.inr hrsp)⟩

/-! ## The map of the buffer space (60_exceptions R306) -/

/-- An address is unmapped when it lies in no row of the map (20_memory R79). -/
theorem memRead_eq_none_iff {s : State} (hwf : s.cfg.wellFormed = true) (a : Nat) :
    memRead a s = none ↔ ¬ BufferMapped s a := by
  obtain ⟨-, hmax, -, hch, -⟩ := (config_wellFormed_iff s.cfg).1 hwf
  rw [← not_iff_not, not_not, ← ne_eq, Option.ne_none_iff_exists']
  constructor
  · rintro ⟨v, hv⟩
    have hchain := lt_chainWords_iff s (a - 0x0410)
    unfold memRead at hv
    unfold BufferMapped
    split_ifs at hv with hchbuf hxout hyout hmode hcur hword hraw hbase
    · exact .inl ⟨a, by omega⟩
    · exact .inr (.inl ⟨a - 0x0100, by omega⟩)
    · exact .inr (.inr (.inl ⟨a - 0x0200, by omega⟩))
    · exact .inr (.inr (.inr (.inl ⟨a - 0x0300, by omega⟩)))
    · exact .inr (.inr (.inr (.inr (.inl hcur))))
    · exact .inr (.inr (.inr (.inr (.inr (.inl ⟨a - 0x0410, by omega⟩)))))
    · exact .inr (.inr (.inr (.inr (.inr (.inr
        (.inl ⟨(a - 0x1000) / 8, (a - 0x1000) % 8, by omega⟩))))))
    · exact .inr (.inr (.inr (.inr (.inr (.inr
        (.inr ⟨(a - 0x2000) / 8, (a - 0x2000) % 8, by omega⟩))))))
  · rintro (⟨c, hc, rfl⟩ | ⟨p, hp, rfl⟩ | ⟨p, hp, rfl⟩ | ⟨c, hc, rfl⟩ | rfl | ⟨w, hw, rfl⟩ |
      ⟨p, c, hp, hc, rfl⟩ | ⟨p, c, hp, hc, rfl⟩)
    · exact ⟨_, memRead_chbuf s (by omega)⟩
    · exact ⟨_, memRead_xout s hp⟩
    · exact ⟨_, memRead_yout s hmax hp⟩
    · exact ⟨_, memRead_mode hmax hc⟩
    · exact ⟨_, memRead_cur hmax⟩
    · exact ⟨_, memRead_chain hmax hw⟩
    · exact ⟨_, memRead_rawbuf s hmax hch hp hc⟩
    · exact ⟨_, memRead_base hmax hch hp hc⟩

/-! ## Who raises which status (60_exceptions R301) -/

/-- The check of command `i` that fails in state `s`, with the status it raises: one constructor per
command that can raise one. -/
inductive Raises (s : State) : Instr → Status → Prop where
  | adcRead {dev ch : Nat} (hch : s.cfg.channels ≤ ch) : Raises s (.adcRead dev ch) .channelError
  | saReadChannel {dev ch : Nat} (hch : s.cfg.channels ≤ ch) :
      Raises s (.saReadChannel dev ch) .channelError
  | getConfig {ch : Nat} (hch : 8 ≤ ch) : Raises s (.getConfig ch) .rangeError
  | setConfig {b : Mode} {ch : Nat} (hch : 8 ≤ ch) (hall : ch ≠ Config.allPorts) :
      Raises s (.setConfig b ch) .configFail
  | readBuf {a : Nat} (ha : memRead a s = none) : Raises s (.readBuf a) .badAddr

theorem configuredChannel_iff (k : Config) (c : Nat) :
    configuredChannel k c = true ↔ c < k.channels := decide_eq_true_iff

/-- A failed check ends the command with its status, and nothing else happens (60_exceptions R300,
R309). -/
theorem Raises.exec {s : State} {i : Instr} {st : Status} (h : Raises s i st) :
    exec i s = .next (raise st s) := by
  cases h with
  | adcRead hch => exact congrArg Host.Outcome.next (readCommand_unconfigured _ _ s hch)
  | saReadChannel hch =>
    exact exec_saReadChannel_unconfigured (by rwa [configuredChannel_iff, Nat.not_lt])
  | getConfig hch => exact if_neg (by rwa [tablePort_iff, Nat.not_lt])
  | setConfig hch hall =>
    rw [Machine.exec, execSetConfig, if_neg hall, if_neg (by rwa [tablePort_iff, Nat.not_lt])]
  | readBuf ha => rw [Machine.exec, execReadBuf, ha]

theorem exec_getConfig_of_port {ch : Nat} (s : State) (hch : ch < 8) :
    exec (.getConfig ch) s = .next (s.responded .ok (modeResult (s.modeAt ch))) :=
  if_pos ((tablePort_iff ch).2 hch)

/-- A host command answers OK, or one of its checks fails. -/
theorem exec_ok_or_raises {i : Instr} (s : State) (hi : isCommand i = true) :
    (∃ r t, exec i s = .next (respond .ok r t)) ∨ ∃ st, Raises s i st := by
  cases i with
  | select dev => exact .inl ⟨_, _, rfl⟩
  | adcRead dev ch =>
    rcases Nat.lt_or_ge ch s.cfg.channels with hch | hch
    · exact .inl ⟨_, _, congrArg Host.Outcome.next (readCommand_configured dev ch s hch)⟩
    · exact .inr ⟨_, .adcRead hch⟩
  | adcReadAll dev => exact .inl ⟨_, _, rfl⟩
  | getConfig ch =>
    rcases Nat.lt_or_ge ch 8 with hch | hch
    · exact .inl ⟨_, s, exec_getConfig_of_port s hch⟩
    · exact .inr ⟨_, .getConfig hch⟩
  | setConfig b ch =>
    by_cases hok : ch = Config.allPorts ∨ ch < 8
    · exact .inl ⟨_, configWork b ch s, exec_setConfig_ok b s hok⟩
    · obtain ⟨hall, hch⟩ := not_or.1 hok
      exact .inr ⟨_, .setConfig (Nat.not_lt.1 hch) hall⟩
  | rawToVoltage vref raw => exact .inl ⟨_, _, rfl⟩
  | saReadAll => exact .inl ⟨_, _, rfl⟩
  | saReadAllRaw => exact .inl ⟨_, _, rfl⟩
  | saReadChannel dev ch =>
    rcases Nat.lt_or_ge ch s.cfg.channels with hch | hch
    · have hconfigured := (configuredChannel_iff _ _).2 hch
      by_cases hdev : validDevice s.cfg dev = true
      · exact .inl ⟨_, _, exec_saReadChannel_valid hconfigured hdev⟩
      · exact .inl ⟨_, _, exec_saReadChannel_invalid hconfigured hdev⟩
    · exact .inr ⟨_, .saReadChannel hch⟩
  | readBuf a =>
    cases ha : memRead a s with
    | some v => exact .inl ⟨_, s, exec_readBuf_of_mapped ha⟩
    | none => exact .inr ⟨_, .readBuf ha⟩
  | adcCmdSingle ch => cases hi
  | adcCmdDiff ch => cases hi

/-- A host command that answers an error status has raised it. -/
theorem raises_of_error {i : Instr} {s t : State} (hi : isCommand i = true)
    (hexec : exec i s = .next t) (herror : t.rspStatus ≠ .ok) :
    Raises s i t.rspStatus ∧ t = raise t.rspStatus s := by
  rcases exec_ok_or_raises s hi with ⟨r, u, hok⟩ | ⟨st, hraises⟩
  · cases hexec.symm.trans hok
    exact absurd rfl herror
  · cases hexec.symm.trans hraises.exec
    exact ⟨hraises, rfl⟩

/-- The same for a status that is known. -/
theorem raises_of_status {i : Instr} {s t : State} {st : Status} (hi : isCommand i = true)
    (hexec : exec i s = .next t) (hst : t.rspStatus = st) (herror : st ≠ .ok) : Raises s i st := by
  subst hst
  exact (raises_of_error hi hexec herror).1

/-- Settles O22: the channel check, and the two commands that make it. -/
theorem channelErrorComesBeforeSelection : Obligations.ChannelErrorComesBeforeSelection := by
  unfold Obligations.ChannelErrorComesBeforeSelection
  refine ⟨fun s dev ch hch => ⟨(Raises.adcRead hch).exec, (Raises.saReadChannel hch).exec⟩,
    fun i s t hexec hi hst => ?_⟩
  cases raises_of_status hi hexec hst (by decide) with
  | adcRead hch => exact ⟨_, _, hch, .inl rfl⟩
  | saReadChannel hch => exact ⟨_, _, hch, .inr rfl⟩

/-- Settles O27: the table's entry as a number, or the failed check. -/
theorem getConfigReadsTheTable : Obligations.GetConfigReadsTheTable := by
  unfold Obligations.GetConfigReadsTheTable
  intro s ch
  refine ⟨fun hch hmode => ?_, fun hch hmode => ?_, fun hch => (Raises.getConfig hch).exec⟩
  · rw [exec_getConfig_of_port s hch, hmode, modeResult]
  · rw [exec_getConfig_of_port s hch, hmode, modeResult]

/-- A SET_CONFIG that fails is to a channel 8..254: 255 is ALL_PORTS (42_config R211). -/
theorem le_254_of_wellFormed {b : Mode} {ch : Nat} (hwf : (Instr.setConfig b ch).wellFormed = true)
    (hall : ch ≠ Config.allPorts) : ch ≤ 254 := by
  have hfits : ch < 256 := fitsByte_iff.1 hwf
  have hne : ch ≠ 255 := hall
  omega

/-- Settles O28: the port check, and the one command that makes it. -/
theorem setConfigFailsOutOfRange : Obligations.SetConfigFailsOutOfRange := by
  unfold Obligations.SetConfigFailsOutOfRange
  refine ⟨fun s b ch hch hmax => ?_, fun i s t hwf hi hexec hst => ?_⟩
  · have hall : ch ≠ Config.allPorts := Nat.ne_of_lt (Nat.lt_succ_of_le hmax)
    exact (Raises.setConfig hch hall).exec
  · cases raises_of_status hi hexec hst (by decide) with
    | setConfig hch hall => exact ⟨_, _, rfl, hch, le_254_of_wellFormed hwf hall⟩

/-- Settles O41: the map, and the one command that reads it. -/
theorem readBufRefusesUnmappedAddresses : Obligations.ReadBufRefusesUnmappedAddresses := by
  unfold Obligations.ReadBufRefusesUnmappedAddresses
  refine ⟨fun s a hwf ha => (Raises.readBuf ((memRead_eq_none_iff hwf a).2 ha)).exec,
    fun i s t hwf hi hexec hst => ?_⟩
  cases raises_of_status hi hexec hst (by decide) with
  | readBuf ha => exact ⟨_, rfl, (memRead_eq_none_iff hwf _).1 ha⟩

/-- Settles O43: a command's own error by the check that raised it. -/
theorem statusTable : Obligations.StatusTable := by
  unfold Obligations.StatusTable
  refine ⟨rfl, fun i s t hcfg hwf hi hexec => ?_, fun s w => acceptCommand_of_illegal⟩
  by_cases hok : t.rspStatus = .ok
  · rw [hok]
    trivial
  · obtain ⟨hraises, ht⟩ := raises_of_error hi hexec hok
    generalize t.rspStatus = st at hraises ht
    subst ht
    cases hraises with
    | adcRead hch => exact ⟨rfl, _, _, hch, .inl rfl⟩
    | saReadChannel hch => exact ⟨rfl, _, _, hch, .inr rfl⟩
    | getConfig hch => exact ⟨rfl, _, hch, rfl⟩
    | setConfig hch hall => exact ⟨rfl, _, _, hch, le_254_of_wellFormed hwf hall, rfl⟩
    | readBuf ha => exact ⟨rfl, _, (memRead_eq_none_iff hcfg _).1 ha, rfl⟩

/-! ## No command sees the response before it (60_exceptions R309) -/

/-- A loop whose body commutes with a map commutes with it. -/
theorem forUpTo_commutes {σ : Type} {g : σ → σ} {body : Nat → σ → σ}
    (h : ∀ i x, body i (g x) = g (body i x)) (n : Nat) (x : σ) :
    forUpTo n body (g x) = g (forUpTo n body x) :=
  forUpTo_related (R := fun x y => y = g x) (f := body) (fun i x _ hy => hy ▸ h i x) n rfl

/-- The state with other values in the response registers. -/
def State.withResponse (st : Status) (r : Result) (s : State) : State :=
  { s with rspStatus := st, rspResult := r }

section
variable (s : State) (st : Status) (r : Result)

@[simp] theorem withResponse_cfg : (s.withResponse st r).cfg = s.cfg := rfl

@[simp] theorem withResponse_cur : (s.withResponse st r).cur = s.cur := rfl

theorem repeat_srAdvance_withResponse (b : Bool) (m : Nat) :
    repeatTimes m (srAdvance b) (s.withResponse st r) =
      (repeatTimes m (srAdvance b) s).withResponse st r := by
  rw [repeat_srAdvance, repeat_srAdvance]
  rfl

theorem srSetAll_withResponse (b : Bool) :
    srSetAll b (s.withResponse st r) = (srSetAll b s).withResponse st r :=
  repeat_srAdvance_withResponse s st r b s.lines

theorem selectStart_withResponse (d : Nat) :
    selectStart d (s.withResponse st r) = (selectStart d s).withResponse st r := by
  simp only [selectStart, withResponse_cur, srSetAll_withResponse]
  split <;> rfl

theorem selectCore_withResponse (d : Nat) :
    selectCore d (s.withResponse st r) =
      ((selectCore d s).1, (selectCore d s).2.withResponse st r) := by
  simp only [selectCore, withResponse_cfg, withResponse_cur, selectStart_withResponse,
    srSetAll_withResponse, repeat_srAdvance_withResponse]
  split <;> rfl

theorem frame_withResponse (c : Nat) :
    frame c (s.withResponse st r) = ((frame c s).1, (frame c s).2.withResponse st r) := by
  rw [frame, frame, exchange_eq, exchange_eq]
  rfl

theorem readCore_withResponse (d c : Nat) :
    readCore d c (s.withResponse st r) =
      ((readCore d c s).1, (readCore d c s).2.withResponse st r) := by
  simp only [readCore, selectCore_withResponse, frame_withResponse]
  split <;> rfl

theorem readIntoChbuf_withResponse (dev c : Nat) :
    readIntoChbuf dev c (s.withResponse st r) = (readIntoChbuf dev c s).withResponse st r := by
  rw [readIntoChbuf, readCore_withResponse]
  rfl

theorem readIntoRawbuf_withResponse (p c : Nat) :
    readIntoRawbuf p c (s.withResponse st r) = (readIntoRawbuf p c s).withResponse st r := by
  rw [readIntoRawbuf, readCore_withResponse]
  rfl

theorem rawSweep_withResponse :
    rawSweep (s.withResponse st r) = (rawSweep s).withResponse st r :=
  forUpTo_commutes (g := (State.withResponse st r))
    (body := fun p t => forUpTo t.cfg.channels (readIntoRawbuf p) t)
    (fun p t => forUpTo_commutes (fun c u => readIntoRawbuf_withResponse u st r p c)
      t.cfg.channels t) s.cfg.devices s

theorem samplePlate_withResponse (p : Nat) :
    samplePlate p (s.withResponse st r) =
      ((samplePlate p s).1, (samplePlate p s).2.withResponse st r) := by
  have hadd : ∀ c x, addReading p c (Prod.map id (State.withResponse st r) x) =
      Prod.map id (State.withResponse st r) (addReading p c x) := by
    intro c x
    rw [addReading, Prod.map_snd, readCore_withResponse]
    rfl
  exact repeatTimes_related (R := fun x y => y = Prod.map id (State.withResponse st r) x)
    (fun x _ hy => hy ▸ forUpTo_commutes hadd _ x) _ rfl

theorem readPlate_withResponse (p : Nat) :
    readPlate p (s.withResponse st r) = (readPlate p s).withResponse st r := by
  rw [readPlate, samplePlate_withResponse]
  rfl

theorem readCommand_withResponse (dev ch : Nat) :
    readCommand dev ch (s.withResponse st r) = readCommand dev ch s := by
  rw [readCommand, readCommand, readCore_withResponse]
  rfl

/-- What a host command does and responds does not depend on the response registers: it reads
neither, and its response overwrites both. -/
theorem exec_withResponse {i : Instr} (hi : isCommand i = true) :
    exec i (s.withResponse st r) = exec i s := by
  cases i with
  | select dev =>
    simp only [exec, execSelect, selectCore_withResponse]
    rfl
  | adcRead dev ch => simp only [exec, execAdcRead, readCommand_withResponse]
  | adcReadAll dev =>
    have hreads := forUpTo_commutes (fun c t => readIntoChbuf_withResponse t st r dev c)
      s.cfg.channels s
    simp only [exec, execAdcReadAll, withResponse_cfg, hreads]
    rfl
  | getConfig ch => rfl
  | setConfig b ch =>
    have hall := forUpTo_commutes (g := (State.withResponse st r)) (body := fun c => setMode c b)
      (fun _ _ => rfl) Config.maxPorts s
    have hpaired : setModePaired b ch (s.withResponse st r) =
        (setModePaired b ch s).withResponse st r := by
      cases b <;> rfl
    simp only [exec, execSetConfig, hall, hpaired]
    rfl
  | rawToVoltage vref raw => rfl
  | saReadAll =>
    have hplates := forUpTo_commutes (fun p t => readPlate_withResponse t st r p) s.cfg.devices s
    simp only [exec, execSaReadAll, withResponse_cfg, hplates]
    rfl
  | saReadAllRaw =>
    have hresponse : ∀ t, exec .saReadAllRaw t = .next (respond .ok 0 (rawSweep t)) := fun _ => rfl
    rw [hresponse, hresponse, rawSweep_withResponse]
    rfl
  | saReadChannel dev ch =>
    simp only [exec, execSaReadChannel, readCore_withResponse]
    rfl
  | readBuf a =>
    have hread : memRead a (s.withResponse st r) = memRead a s := by
      apply memRead_congr <;> rfl
    simp only [exec, execReadBuf, hread]
    rfl
  | adcCmdSingle ch => cases hi
  | adcCmdDiff ch => cases hi

end

/-- Settles O42: an error is a failed check, an illegal word does not decode, and no command reads
the response registers. -/
theorem errorsArePrecise : Obligations.ErrorsArePrecise := by
  unfold Obligations.ErrorsArePrecise
  refine ⟨fun i s t hi hexec herror => ?_, fun s w => acceptCommand_of_illegal,
    fun i s st r => exec_withResponse s st r⟩
  obtain ⟨-, ht⟩ := raises_of_error hi hexec herror
  rw [ht]
  rfl

/-! ## The invalid device (60_exceptions R307) -/

/-- A deselect after others is one more. -/
theorem afterDeselects_succ (s : State) (n : Nat) :
    (s.afterDeselects n).afterDeselects 1 = s.afterDeselects (n + 1) := by
  simp only [State.afterDeselects, List.append_assoc, List.replicate_append_replicate,
    Nat.add_mul]

/-- The state after the first `n` reads of an ADC_READ_ALL of an invalid device: each has put 0 in
place. -/
def State.afterReadNone (s : State) (n : Nat) : State :=
  { s.afterDeselects n with chbuf := (List.range n).map (fun _ => 0) ++ s.chbuf.drop n }

section
variable {s : State} {dev : Nat} (hdev : validDevice s.cfg dev = false) (hpos : 1 ≤ s.cfg.devices)
include hdev hpos

/-- ADC_READ of an invalid device answers OK with 0. -/
theorem readCommand_invalid {ch : Nat} (hch : ch < s.cfg.channels) :
    readCommand dev ch s = (s.afterDeselects 1).responded .ok 0 := by
  rw [readCommand_configured dev ch s hch, readCore_invalid dev ch s hdev hpos]
  rfl

theorem readIntoChbuf_afterReadNone {n : Nat} (hlt : n < s.chbuf.length) :
    readIntoChbuf dev n (s.afterReadNone n) = s.afterReadNone (n + 1) := by
  rw [readIntoChbuf, readCore_invalid dev n (s.afterReadNone n) hdev hpos, State.afterReadNone,
    State.afterReadNone, ← afterDeselects_succ s n, ← set_overwritten (fun _ => 0) s.chbuf hlt]
  rfl

theorem readIntoChbuf_invalid_first (hlt : 0 < s.chbuf.length) :
    readIntoChbuf dev 0 s = s.afterReadNone 1 := by
  rw [readIntoChbuf, readCore_invalid dev 0 s hdev hpos, State.afterReadNone,
    ← set_overwritten (fun _ => 0) s.chbuf hlt]
  rfl

theorem forUpTo_readIntoChbuf_invalid {n : Nat} (hlt : n < s.chbuf.length) :
    forUpTo (n + 1) (readIntoChbuf dev) s = s.afterReadNone (n + 1) := by
  induction n with
  | zero => exact readIntoChbuf_invalid_first hdev hpos hlt
  | succ n ih =>
    rw [forUpTo_succ, ih (by omega)]
    exact readIntoChbuf_afterReadNone hdev hpos hlt

end

/-- Settles O14: every selection of the device deselects, every read of it gives 0. -/
theorem invalidDeviceIsSilent : Obligations.InvalidDeviceIsSilent := by
  unfold Obligations.InvalidDeviceIsSilent
  intro s dev ch hwf hshaped hrange hch
  obtain ⟨hpos, hmax, hchannels, hports, -⟩ := (config_wellFormed_iff _).1 hwf
  obtain ⟨-, -, -, hchbuf, -⟩ := hshaped
  have hdev : validDevice s.cfg dev = false := by
    rw [Bool.eq_false_iff, ne_eq, validDevice_iff]
    omega
  refine ⟨?select, ?adcRead, ?adcReadAll, ?saReadChannel, fun n => ?readBuf⟩
  case select =>
    rw [exec, execSelect, selectCore_invalid dev s hdev hpos]
    rfl
  case adcRead => rw [exec, execAdcRead, readCommand_invalid hdev hpos hch]
  case adcReadAll =>
    obtain ⟨n, hn⟩ := Nat.exists_eq_add_one_of_ne_zero (show s.cfg.channels ≠ 0 by omega)
    have hreads := forUpTo_readIntoChbuf_invalid hdev hpos (n := n) (by omega)
    rw [← hn, State.afterReadNone, List.map_const', List.length_range] at hreads
    rw [exec, execAdcReadAll, hreads]
    rfl
  case saReadChannel =>
    rw [exec_saReadChannel_invalid (decide_eq_true hch) (Bool.eq_false_iff.1 hdev),
      readCore_invalid dev ch s hdev hpos]
    rfl
  case readBuf => exact exec_readBuf_of_mapped (s := s.afterDeselects n) (memRead_cur hmax)

end Sys2Proof.Machine
end

section
/-! PROOFS. The state after INIT in closed form: from any state, from power-up, and in the one step of
a reset pulse (spec 10_state R48, 43_sensor_array R241, 70_reset_and_hazards R341 to R353). -/

namespace Sys2Proof.Machine

/-! ## Calibration from a cleared block -/

/-- What calibration starts from: nothing selected, every channel SINGLE (70_reset_and_hazards
R341). -/
structure ReadyToCalibrate (s : State) : Prop where
  selects : SelectsOneLine s
  deselected : s.cur.toNat = 0
  allSingle : ∀ c, s.modeAt c = .single

section
variable {s : State}

/-- With every channel SINGLE, the sweep of a calibration emits the events of INIT's reads. -/
theorem ReadyToCalibrate.sweepEvents (h : ReadyToCalibrate s) (n : Nat) :
    s.sweepEvents (calDevice s.cfg) (fun j => j % s.cfg.channels) n =
      (List.range n).flatMap (calReadEvents s.cfg s.nextByte) := by
  simp only [State.sweepEvents, State.readEvents, h.deselected, h.allSingle]
  rfl

theorem calReads_pos {k : Config} (hwf : k.wellFormed = true) : 0 < calReads k := by
  obtain ⟨hpos, -, hch, -, hcal, -⟩ := (config_wellFormed_iff k).1 hwf
  exact Nat.mul_pos (Nat.mul_pos hcal hpos) (by omega)

/-- The last read of a calibration is of the last device. -/
theorem calDevice_last {k : Config} (hwf : k.wellFormed = true) :
    calDevice k (calReads k - 1) = k.devices := by
  obtain ⟨hpos, -, hch, -, hcal, -⟩ := (config_wellFormed_iff k).1 hwf
  have hlast := calCurBefore_calReads hcal hpos (by omega : 1 ≤ k.channels)
  rwa [calCurBefore, if_neg (Nat.ne_of_gt (calReads_pos hwf))] at hlast

/-- The passes of a calibration leave its reads, the last one of the last device. -/
theorem ReadyToCalibrate.calibrating_all (h : ReadyToCalibrate s) :
    s.calibrating s.cfg.calN 0 =
      { s.afterReads s.cfg.devices (calReads s.cfg)
          ((List.range (calReads s.cfg)).flatMap (calReadEvents s.cfg s.nextByte)) with
        acc := s.accAfter s.cfg.calN 0 } := by
  have hreads : s.cfg.calN * (s.cfg.devices * s.cfg.channels) + 0 = calReads s.cfg := by
    rw [calReads, Nat.mul_assoc, Nat.add_zero]
  rw [State.calibrating, hreads, State.calReadsDone,
    swept_of_pos (calReads_pos h.selects.1) (calDevice_last h.selects.1), ← h.sweepEvents]
  rfl

/-- A calibration does its reads and stores their means; nothing else changes (43_sensor_array
R241). -/
theorem ReadyToCalibrate.calibrate_eq (h : ReadyToCalibrate s) :
    calibrate s =
      { s.afterReads s.cfg.devices (calReads s.cfg)
          ((List.range (calReads s.cfg)).flatMap (calReadEvents s.cfg s.nextByte)) with
        base := calBase s.cfg s.nextByte
        acc := staleAccs s.cfg (s.drawn + 3 * calReads s.cfg) } := by
  rw [← calibrate_base h.selects, calibrate, samplePasses_eq h.selects, h.calibrating_all]
  rfl

end

/-! ## INIT -/

/-- The state in which INIT calibrates: the chain filled, the tables cleared. -/
theorem cleared_eq {s : State} (hpos : 1 ≤ s.cfg.devices) :
    clearTables (srSetAll true { s with phase := .init, busHeld := false }) =
      clearTables { s with
        phase := .init
        busHeld := false
        sr := List.replicate s.cfg.devices true
        trace := s.trace ++ List.replicate s.cfg.devices (.srShift true) } := by
  rw [srSetAll_eq, if_neg (Nat.ne_of_gt hpos)]

theorem readyToCalibrate_cleared {s : State} (hwf : s.cfg.wellFormed = true) :
    ReadyToCalibrate (clearTables (srSetAll true { s with phase := .init, busHeld := false })) := by
  rw [cleared_eq ((config_wellFormed_iff _).1 hwf).1]
  exact ⟨⟨hwf, corresponds_of_deselected rfl rfl⟩, rfl, fun c => getD_replicate_self _ c _⟩

/-- Settles O49: INIT's calibration from the filled chain and the cleared tables. -/
theorem initLeavesTheReadyState : Obligations.InitLeavesTheReadyState := by
  unfold Obligations.InitLeavesTheReadyState
  intro s hwf
  rw [initSequence, (readyToCalibrate_cleared hwf).calibrate_eq,
    cleared_eq ((config_wellFormed_iff _).1 hwf).1, initEvents, ← List.append_assoc]
  rfl

/-- Settles O50: at power-up no event is out and no answer drawn. -/
theorem theResetStateIsInitFromPowerUp : Obligations.TheResetStateIsInitFromPowerUp := by
  unfold Obligations.TheResetStateIsInitFromPowerUp
  have hbytes : (State.powerUp Config.shown).nextByte = Config.spiByte :=
    funext fun n => congrArg Config.spiByte (Nat.zero_add n)
  rw [initLeavesTheReadyState _ (by decide), hbytes]
  simp [State.powerUp, State.reset, State.ready]

/-! ## The reset pulse -/

/-- Entering reset closes an open bracket and takes the response away (70_reset_and_hazards R340,
R353). -/
theorem enterReset_eq (s : State) :
    ∃ held, enterReset s =
      { s with
        busHeld := held
        rspValid := false
        trace := s.trace ++ if s.busHeld then [.spiEnd] else [] } := by
  cases hheld : s.busHeld with
  | true => exact ⟨false, by rw [enterReset, if_pos hheld]; rfl⟩
  | false => exact ⟨s.busHeld, by simp [enterReset, hheld]⟩

/-- Settles O51: INIT from the state in which the bracket is closed. -/
theorem resetPulseRunsInitFromAnyState : Obligations.ResetPulseRunsInitFromAnyState := by
  unfold Obligations.ResetPulseRunsInitFromAnyState
  intro s rest hwf hpending
  obtain ⟨held, henter⟩ := enterReset_eq { s with pending := rest }
  rw [step_of_pending hpending, serve, resetPulse, henter]
  exact congrArg Host.Outcome.next (initLeavesTheReadyState _ hwf)

end Sys2Proof.Machine
end

section
/-! PROOFS. A mode change and the next frame of its channel (spec 70_reset_and_hazards R354,
41_adc_protocol R170). -/

namespace Sys2Proof.Machine

/-- Two states that agree at the ports get the same answers. -/
theorem SamePorts.nextByte {s t : State} (h : SamePorts s t) : t.nextByte = s.nextByte := by
  funext n
  rw [State.nextByte, h.rx, h.drawn, State.nextByte]

/-- A read sends the word of its channel's present mode; all else that it emits depends on the ports
alone. -/
theorem SamePorts.readEvents {s t : State} (h : SamePorts s t) (c0 d c j : Nat) :
    t.readEvents c0 d c j = selectEvents s.cfg.devices c0 d ++
      frameEvents (adcWord (t.modeAt c).isSingle c) (s.nextByte (3 * j)) (s.nextByte (3 * j + 1))
        (s.nextByte (3 * j + 2)) := by
  rw [State.readEvents, h.cfg, h.nextByte]

/-- Settles O33: SET_CONFIG writes the channel's entry and leaves the ports alone, so the read that
follows sends the word of the new mode. -/
theorem modeTakesEffectAtTheNextFrame : Obligations.ModeTakesEffectAtTheNextFrame := by
  unfold Obligations.ModeTakesEffectAtTheNextFrame
  intro s b dev ch hwf hlength hcor hpos hdev hch
  obtain ⟨-, -, -, hports, -⟩ := (config_wellFormed_iff _).1 hwf
  have hport : ch < 8 := by omega
  have hsame : SamePorts s ((configWork b ch s).responded .ok 1) :=
    { configWork_samePorts b ch s with }
  have hmode : ((configWork b ch s).responded .ok 1).modeAt ch = b :=
    modeAt_configWork_of_writes hlength hport (.inr ⟨hport, .inl rfl⟩)
  have hvalid : validDevice s.cfg dev = true := (validDevice_iff _ _).2 ⟨hpos, hdev⟩
  have hread := readCommand_valid (portInvariant_selectsOneLine.ofSamePorts ⟨hwf, hcor⟩ hsame)
    (by rwa [hsame.cfg]) (by rwa [hsame.cfg])
  refine ⟨_, _, exec_setConfig_ok b s (.inr hport), congrArg Host.Outcome.next hread, ?_⟩
  rw [List.append_assoc, hsame.readEvents, hmode, hsame.cur]
  exact congrArg (· ++ _) hsame.trace

end Sys2Proof.Machine
end

section
/-! PROOFS. The event counts: a read of a device is one selection and one frame, so the counts of
every command and of INIT follow from the devices that its reads visit (spec 40_selector R145,
70_reset_and_hazards R352). -/

namespace Sys2Proof.Machine

/-! ## Counts of some events -/

/-- Some events are so many shifts and so many whole frames, and nothing else. -/
structure Counts (es : List Event) (shifts frames : Nat) : Prop where
  shiftCount : shiftCount es = shifts
  frameCount : frameCount es = frames
  length : es.length = shifts + 5 * frames
  brackets : WellBracketed es

theorem Counts.append {es fs : List Event} {m f m' f' : Nat} (hes : Counts es m f)
    (hfs : Counts fs m' f') : Counts (es ++ fs) (m + m') (f + f') where
  shiftCount := by
    rw [Machine.shiftCount, List.countP_append]
    exact congrArg₂ (· + ·) hes.shiftCount hfs.shiftCount
  frameCount := by
    rw [Machine.frameCount, List.count_append]
    exact congrArg₂ (· + ·) hes.frameCount hfs.frameCount
  length := by
    rw [List.length_append, hes.length, hfs.length]
    ring
  brackets := hes.brackets.append hfs.brackets

theorem counts_nil : Counts [] 0 0 := ⟨rfl, rfl, rfl, rfl⟩

theorem counts_shifts (bits : List Bool) : Counts (bits.map .srShift) bits.length 0 where
  shiftCount := shiftCount_map_srShift bits
  frameCount := by simp [frameCount, List.count_eq_zero]
  length := List.length_map _
  brackets := wellBracketed_shifts bits

theorem counts_frameEvents (sgl : Bool) (ch : Nat) (r1 r2 r3 : Byte) :
    Counts (frameEvents (adcWord sgl ch) r1 r2 r3) 0 1 :=
  ⟨rfl, rfl, rfl, wellBracketed_frameEvents sgl ch r1 r2 r3⟩

/-- The shifts of a selection of a device (40_selector R145). -/
theorem length_selectBits {n c t : Nat} (hpos : 1 ≤ t) (ht : t ≤ n) :
    (selectBits n c t).length = selectionShifts n c t := by
  rw [selectBits, if_neg (by omega), selectionShifts]
  split
  · simp
    omega
  · simp

/-! ## What a run has emitted, and the line it has selected -/

/-- From `s₀` to `s` so many shifts and frames were emitted; at `s`, where CUR and the chain
correspond, `line` is selected. -/
structure Emitted (s₀ : State) (line shifts frames : Nat) (s : State) : Prop where
  cfg : s.cfg = s₀.cfg
  selects : SelectsOneLine s
  line : s.cur.toNat = line
  events : ∃ es, s.trace = s₀.trace ++ es ∧ Counts es shifts frames

section
variable {s₀ s t : State} {c d ch m f m' f' : Nat}

theorem Emitted.refl (h : SelectsOneLine s) : Emitted s s.cur.toNat 0 0 s :=
  ⟨rfl, h, rfl, [], (List.append_nil _).symm, counts_nil⟩

theorem Emitted.ofSamePorts (h : Emitted s₀ c m f s) (hst : SamePorts s t) :
    Emitted s₀ c m f t where
  cfg := hst.cfg.trans h.cfg
  selects := portInvariant_selectsOneLine.ofSamePorts h.selects hst
  line := by rw [hst.cur, h.line]
  events := by rw [hst.trace]; exact h.events

/-- More events after those before. -/
theorem Emitted.more (h : Emitted s₀ c m f s) {es : List Event} (htrace : t.trace = s.trace ++ es)
    (hes : Counts es m' f') (hcfg : t.cfg = s.cfg) (ht : SelectsOneLine t)
    (hline : t.cur.toNat = d) : Emitted s₀ d (m + m') (f + f') t where
  cfg := hcfg.trans h.cfg
  selects := ht
  line := hline
  events := by
    obtain ⟨es', htrace', hes'⟩ := h.events
    exact ⟨es' ++ es, by rw [htrace, htrace', List.append_assoc], hes'.append hes⟩

/-- A selection of a device (40_selector R145). -/
theorem Emitted.selectCore (h : Emitted s₀ c m f s) (hd : validDevice s₀.cfg d = true) :
    Emitted s₀ d (m + selectionShifts s₀.cfg.devices c d) f (selectCore d s).2 := by
  rw [← h.cfg] at hd ⊢
  obtain ⟨-, hmax, -⟩ := (config_wellFormed_iff _).1 h.selects.1
  obtain ⟨hpos, hle⟩ := (validDevice_iff _ _).1 hd
  have hselects := selectsOneLine_selectCore d s h.selects
  have hbits := counts_shifts (selectBits s.cfg.devices s.cur.toNat d)
  rw [length_selectBits hpos hle, h.line] at hbits
  rw [selectCore_valid d s hd hmax h.selects.2, h.line] at hselects ⊢
  exact h.more rfl hbits rfl hselects (by simp; omega)

/-- A selection of an invalid device: N shifts (40_selector R143). -/
theorem Emitted.selectCore_invalid (h : Emitted s₀ c m f s) (hd : validDevice s₀.cfg d = false) :
    Emitted s₀ 0 (m + s₀.cfg.devices) f (Machine.selectCore d s).2 := by
  rw [← h.cfg] at hd ⊢
  obtain ⟨hpos, -⟩ := (config_wellFormed_iff _).1 h.selects.1
  have hselects := selectsOneLine_selectCore d s h.selects
  have hbits := counts_shifts (List.replicate s.cfg.devices true)
  rw [List.map_replicate, List.length_replicate] at hbits
  rw [Machine.selectCore_invalid d s hd hpos] at hselects ⊢
  exact h.more (congrArg (s.trace ++ List.replicate · _) (Nat.one_mul _)) hbits rfl hselects rfl

/-- One frame (41_adc_protocol R172). -/
theorem Emitted.frame (h : Emitted s₀ c m f s) (ch : Nat) :
    Emitted s₀ c m (f + 1) (frame ch s).2 := by
  have hselects := portInvariant_selectsOneLine.frame ch s h.selects
  rw [Machine.frame, exchange_eq] at hselects ⊢
  exact h.more rfl (counts_frameEvents _ _ _ _ _) rfl hselects h.line

theorem readCore_of_valid (hd : validDevice s.cfg d = true) :
    (readCore d ch s).2 = (frame ch (selectCore d s).2).2 := by
  simp [readCore, selectCore, hd]

theorem readCore_of_invalid (hd : validDevice s.cfg d = false) :
    (readCore d ch s).2 = (selectCore d s).2 := by
  simp [readCore, selectCore, hd]

/-- A read of a device: its selection and one frame (41_adc_protocol R174). -/
theorem Emitted.readCore (h : Emitted s₀ c m f s) (hd : validDevice s₀.cfg d = true) :
    Emitted s₀ d (m + selectionShifts s₀.cfg.devices c d) (f + 1) (readCore d ch s).2 := by
  rw [readCore_of_valid (by rwa [h.cfg])]
  exact (h.selectCore hd).frame ch

/-- A read of an invalid device: its selection and no frame (41_adc_protocol R174). -/
theorem Emitted.readCore_invalid (h : Emitted s₀ c m f s) (hd : validDevice s₀.cfg d = false) :
    Emitted s₀ 0 (m + s₀.cfg.devices) f (Machine.readCore d ch s).2 := by
  rw [readCore_of_invalid (by rwa [h.cfg])]
  exact h.selectCore_invalid hd

end

/-! ## Reads of one device in a row -/

/-- The shifts of `k` reads of device `d` in a row, `k` at least 1, where line `c` was selected: the
first moves to the device, each later one selects it anew (40_selector R147). -/
def rowShifts (n c d k : Nat) : Nat := selectionShifts n c d + (k - 1) * (n + d)

theorem selectionShifts_same (n d : Nat) : selectionShifts n d d = n + d :=
  if_pos (.inr (le_refl d))

theorem rowShifts_one (n c d : Nat) : rowShifts n c d 1 = selectionShifts n c d := by
  simp [rowShifts]

theorem rowShifts_add {k k' : Nat} (n c d : Nat) (hk : 1 ≤ k) (hk' : 1 ≤ k') :
    rowShifts n c d k + rowShifts n d d k' = rowShifts n c d (k + k') := by
  obtain ⟨a, rfl⟩ := Nat.exists_eq_add_of_le' hk
  obtain ⟨b, rfl⟩ := Nat.exists_eq_add_of_le' hk'
  simp only [rowShifts, selectionShifts_same, Nat.add_sub_cancel,
    show a + 1 + (b + 1) - 1 = a + b + 1 by omega]
  ring

/-- `body` is `k` reads of device `d` in a row, as the state in its argument shows. -/
def ReadsDevice {σ : Type} (s₀ : State) (view : σ → State) (d k : Nat) (body : σ → σ) : Prop :=
  ∀ c m f x, Emitted s₀ c m f (view x) →
    Emitted s₀ d (m + rowShifts s₀.cfg.devices c d k) (f + k) (view (body x))

theorem repeatTimes_eq_forUpTo {σ : Type} (n : Nat) (body : σ → σ) (x : σ) :
    repeatTimes n body x = forUpTo n (fun _ => body) x := by
  induction n with
  | zero => rfl
  | succ n ih => rw [repeatTimes_succ, ih, forUpTo_succ]

section
variable {σ : Type} {s₀ : State} {view : σ → State} {d k : Nat}

/-- A loop over reads of one device is reads of it in a row. -/
theorem ReadsDevice.forUpTo {body : Nat → σ → σ} {n : Nat} (hk : 1 ≤ k) (hn : 1 ≤ n)
    (h : ∀ i, ReadsDevice s₀ view d k (body i)) :
    ReadsDevice s₀ view d (n * k) (forUpTo n body) := by
  induction n, hn using Nat.le_induction with
  | base => rw [Nat.one_mul]; exact h 0
  | succ n hn ih =>
    intro c m f x hx
    have hrows := rowShifts_add s₀.cfg.devices c d (Nat.mul_pos hn hk) hk
    rw [Nat.succ_mul, ← hrows, ← Nat.add_assoc, ← Nat.add_assoc]
    exact h n _ _ _ _ (ih _ _ _ _ hx)

/-- A step that is one read and leaves the ports as the read does. -/
theorem ReadsDevice.ofReadCore {body : σ → σ} {ch : Nat} (hd : validDevice s₀.cfg d = true)
    (h : ∀ x, SamePorts (readCore d ch (view x)).2 (view (body x))) :
    ReadsDevice s₀ view d 1 body := by
  intro c m f x hx
  rw [rowShifts_one]
  exact (hx.readCore hd).ofSamePorts (h x)

end

/-! ## Sweeps over the devices -/

/-- The shifts of `k` reads of each of the devices 1..`p`, `k` and `p` at least 1: `P(k)` where `p`
is N (70_reset_and_hazards R352). -/
def platesShifts (n k p : Nat) : Nat := n + p + (k - 1) * (n * p + p * (p + 1) / 2)

theorem platesShifts_one (n c k : Nat) : rowShifts n c 1 k = platesShifts n k 1 := by
  have hfirst : selectionShifts n c 1 = n + 1 := if_pos (by omega)
  rw [rowShifts, hfirst, platesShifts]
  simp

/-- The next device is one shift away (40_selector R145). -/
theorem platesShifts_succ {p : Nat} (n k : Nat) (hp : 1 ≤ p) :
    platesShifts n k p + rowShifts n p (p + 1) k = platesShifts n k (p + 1) := by
  have hnext : selectionShifts n p (p + 1) = 1 := by
    rw [selectionShifts, if_neg (by omega), Nat.add_sub_cancel_left]
  have htriangle : (p + 1) * (p + 1 + 1) / 2 = p * (p + 1) / 2 + (p + 1) := by
    rw [show (p + 1) * (p + 1 + 1) = p * (p + 1) + 2 * (p + 1) by ring,
      Nat.add_mul_div_left _ _ (by decide)]
  rw [rowShifts, hnext, platesShifts, platesShifts, htriangle]
  ring

section
variable {s₀ s : State} {c m f k : Nat} {body : Nat → State → State}

/-- A loop whose turn `p` is `k` reads of device `p + 1`. -/
theorem Emitted.plates {p : Nat} (h : Emitted s₀ c m f s) (hp : 1 ≤ p) (hmax : p ≤ s₀.cfg.devices)
    (hbody : ∀ q < s₀.cfg.devices, ReadsDevice s₀ id (q + 1) k (body q)) :
    Emitted s₀ p (m + platesShifts s₀.cfg.devices k p) (f + p * k) (forUpTo p body s) := by
  induction p, hp using Nat.le_induction with
  | base =>
    rw [← platesShifts_one _ c, Nat.one_mul]
    exact hbody 0 hmax _ _ _ _ h
  | succ p hp ih =>
    rw [← platesShifts_succ _ _ hp, Nat.succ_mul, ← Nat.add_assoc, ← Nat.add_assoc]
    exact hbody p hmax _ _ _ _ (ih (Nat.le_of_succ_le hmax))

/-- A sweep over all devices, from wherever the selection stands. -/
theorem Emitted.sweep (h : Emitted s₀ c m f s)
    (hbody : ∀ q < s₀.cfg.devices, ReadsDevice s₀ id (q + 1) k (body q)) :
    Emitted s₀ s₀.cfg.devices (m + sweepShifts s₀.cfg.devices k) (f + s₀.cfg.devices * k)
      (forUpTo s.cfg.devices body s) := by
  have hpos : 1 ≤ s.cfg.devices := ((config_wellFormed_iff _).1 h.selects.1).1
  rw [h.cfg] at hpos ⊢
  exact h.plates hpos le_rfl hbody

end

/-! ## The commands -/

theorem validDevice_succ {k : Config} {p : Nat} (hp : p < k.devices) :
    validDevice k (p + 1) = true := (validDevice_iff _ _).2 ⟨Nat.succ_pos p, hp⟩

section
variable {s₀ s t : State} {c d m f p : Nat}

/-- A row of reads of every channel, one turn of a sweep over the devices. -/
theorem readsDevice_channels {body : Nat → State → State} (hch : 1 ≤ s₀.cfg.channels)
    (hbody : ∀ ch, ReadsDevice s₀ id d 1 (body ch)) :
    ReadsDevice s₀ id d s₀.cfg.channels (fun t => forUpTo t.cfg.channels body t) := by
  intro c m f t ht
  have hrow := ReadsDevice.forUpTo le_rfl hch hbody c m f t ht
  rw [Nat.mul_one] at hrow
  have hcfg : t.cfg = s₀.cfg := ht.cfg
  simp only [id, hcfg]
  exact hrow

/-- SA_READ_ALL takes AVG_N passes over the four channels of a plate (43_sensor_array R243). -/
theorem readsDevice_readPlate (havg : 1 ≤ s₀.cfg.avgN) (hp : p < s₀.cfg.devices) :
    ReadsDevice s₀ id (p + 1) (4 * s₀.cfg.avgN) (readPlate p) := by
  intro c m f t ht
  have hpass : ReadsDevice s₀ Prod.snd (p + 1) 4 (forUpTo Config.plateChannels (addReading p)) :=
    ReadsDevice.forUpTo (n := 4) le_rfl (by decide) fun ch =>
      .ofReadCore (ch := ch) (validDevice_succ hp) fun _ => {}
  have hpasses := ReadsDevice.forUpTo (by decide) havg (fun _ => hpass) c m f
    (List.replicate Config.plateChannels 0, t) ht
  have hcfg : t.cfg = s₀.cfg := ht.cfg
  rw [← repeatTimes_eq_forUpTo, Nat.mul_comm, ← hcfg] at hpasses
  rw [← hcfg]
  exact hpasses.ofSamePorts {}

/-- Reads of an invalid device only deselect (40_selector R143). -/
theorem Emitted.readAll_invalid (h : Emitted s₀ c m f s) (hd : validDevice s₀.cfg d = false)
    (n : Nat) : ∃ line, Emitted s₀ line (m + n * s₀.cfg.devices) f
      (forUpTo n (readIntoChbuf d) s) := by
  refine forUpTo_keeps (fun i t => ∃ line, Emitted s₀ line (m + i * s₀.cfg.devices) f t) _ _ ?_ s
    ⟨c, by rwa [Nat.zero_mul]⟩
  rintro i t - ⟨line, ht⟩
  rw [Nat.succ_mul, ← Nat.add_assoc]
  exact ⟨0, (ht.readCore_invalid hd).ofSamePorts {}⟩

/-- A calibration is CAL_N sweeps (43_sensor_array R241). -/
theorem Emitted.calibrate (h : Emitted s₀ c m f s) :
    ∃ line, Emitted s₀ line (m + s₀.cfg.calN * sweepShifts s₀.cfg.devices s₀.cfg.channels)
      (f + s₀.cfg.calN * (s₀.cfg.devices * s₀.cfg.channels)) (calibrate s) := by
  have hwf := h.selects.1
  rw [h.cfg] at hwf
  obtain ⟨-, -, hch, -⟩ := (config_wellFormed_iff _).1 hwf
  have hturn : ∀ p < s₀.cfg.devices, ReadsDevice s₀ id (p + 1) s₀.cfg.channels
      (fun t => forUpTo t.cfg.channels (accumulate p) t) := fun p hp =>
    readsDevice_channels (by omega) fun ch =>
      .ofReadCore (ch := ch) (validDevice_succ hp) fun _ => {}
  have hpasses := forUpTo_keeps
    (fun i t => ∃ line, Emitted s₀ line
      (m + i * sweepShifts s₀.cfg.devices s₀.cfg.channels)
      (f + i * (s₀.cfg.devices * s₀.cfg.channels)) t)
    (fun _ => samplePass) s.cfg.calN
    (by
      rintro i t - ⟨line, ht⟩
      rw [Nat.succ_mul, Nat.succ_mul, ← Nat.add_assoc, ← Nat.add_assoc]
      exact ⟨_, ht.sweep hturn⟩)
    { s with acc := List.replicate s.cfg.devices (List.replicate s.cfg.channels 0) }
    ⟨c, by simpa using h.ofSamePorts {}⟩
  obtain ⟨line, hline⟩ := hpasses
  rw [← repeatTimes_eq_forUpTo] at hline
  rw [← h.cfg] at hline ⊢
  exact ⟨line, hline.ofSamePorts {}⟩

/-- INIT is the fill and the calibration (70_reset_and_hazards R341). -/
theorem emitted_initSequence (hwf : s.cfg.wellFormed = true) :
    ∃ line, Emitted s line
      (s.cfg.devices + s.cfg.calN * sweepShifts s.cfg.devices s.cfg.channels)
      (s.cfg.calN * (s.cfg.devices * s.cfg.channels)) (initSequence s) := by
  obtain ⟨hpos, -⟩ := (config_wellFormed_iff _).1 hwf
  have hready := readyToCalibrate_cleared hwf
  have hfill := counts_shifts (List.replicate s.cfg.devices true)
  rw [List.map_replicate, List.length_replicate] at hfill
  have hcleared : Emitted s 0 s.cfg.devices 0
      (clearTables (srSetAll true { s with phase := .init, busHeld := false })) :=
    ⟨(srSetAll_sameTables true _).cfg, hready.selects, hready.deselected, _,
      by rw [cleared_eq hpos]; rfl, hfill⟩
  obtain ⟨line, hline⟩ := hcleared.calibrate
  rw [Nat.zero_add] at hline
  exact ⟨line, hline.ofSamePorts {}⟩

theorem Emitted.emits (h : Emitted s c m f t) : Emits (.next t) s m f := by
  obtain ⟨es, htrace, hes⟩ := h.events
  exact ⟨t, es, rfl, htrace, hes.shiftCount, hes.frameCount, hes.length, hes.brackets⟩

/-- A host command emits what its work emits. -/
theorem Emitted.emits_exec {i : Instr} (hi : isCommand i = true)
    (h : Emitted s c m f (work i s)) : Emits (exec i s) s m f := by
  obtain ⟨st, r, hexec⟩ := exec_command_responds s hi
  rw [hexec]
  exact (h.ofSamePorts {}).emits

/-- The two commands for one configured channel emit what its read emits. -/
theorem Emitted.emits_channel {dev ch : Nat} (hch : ch < s.cfg.channels)
    (h : Emitted s c m f (Machine.readCore dev ch s).2) :
    Emits (exec (.adcRead dev ch) s) s m f ∧ Emits (exec (.saReadChannel dev ch) s) s m f := by
  have hwork : channelWork dev ch s = (Machine.readCore dev ch s).2 :=
    if_pos ((configuredChannel_iff _ _).2 hch)
  rw [← hwork] at h
  exact ⟨h.emits_exec rfl, h.emits_exec rfl⟩

end

/-! ## The rows of the table (70_reset_and_hazards R352) -/

section
variable {s : State} (hline : SelectsOneLine s)
include hline

/-- A command whose work leaves the ports alone emits nothing. -/
theorem emits_none {i : Instr} (hi : isCommand i = true) (h : SamePorts s (work i s)) :
    Emits (exec i s) s 0 0 :=
  ((Emitted.refl hline).ofSamePorts h).emits_exec hi

/-- The rows of a valid device. -/
theorem emits_valid {d ch : Nat} (hd : validDevice s.cfg d = true) (hch : ch < s.cfg.channels) :
    Emits (exec (.select d) s) s (selectionShifts s.cfg.devices s.cur.toNat d) 0 ∧
      Emits (exec (.adcRead d ch) s) s (selectionShifts s.cfg.devices s.cur.toNat d) 1 ∧
      Emits (exec (.saReadChannel d ch) s) s (selectionShifts s.cfg.devices s.cur.toNat d) 1 ∧
      Emits (exec (.adcReadAll d) s) s (rowShifts s.cfg.devices s.cur.toNat d s.cfg.channels)
        s.cfg.channels := by
  have hselect := (Emitted.refl hline).selectCore hd
  have hread := (Emitted.refl hline).readCore (ch := ch) hd
  have hall := readsDevice_channels (body := readIntoChbuf d) (d := d) (Nat.zero_lt_of_lt hch)
    (fun ch => .ofReadCore (ch := ch) hd fun _ => {}) _ _ _ _ (Emitted.refl hline)
  simp only [Nat.zero_add] at hselect hread hall
  obtain ⟨hadc, hsa⟩ := hread.emits_channel hch
  exact ⟨hselect.emits_exec rfl, hadc, hsa, hall.emits_exec rfl⟩

/-- The rows of an invalid device. -/
theorem emits_invalid {d ch : Nat} (hd : validDevice s.cfg d = false) (hch : ch < s.cfg.channels) :
    Emits (exec (.select d) s) s s.cfg.devices 0 ∧
      Emits (exec (.adcRead d ch) s) s s.cfg.devices 0 ∧
      Emits (exec (.saReadChannel d ch) s) s s.cfg.devices 0 ∧
      Emits (exec (.adcReadAll d) s) s (s.cfg.channels * s.cfg.devices) 0 := by
  have hselect := (Emitted.refl hline).selectCore_invalid hd
  have hread := (Emitted.refl hline).readCore_invalid (ch := ch) hd
  obtain ⟨line, hall⟩ := (Emitted.refl hline).readAll_invalid hd s.cfg.channels
  simp only [Nat.zero_add] at hselect hread hall
  obtain ⟨hadc, hsa⟩ := hread.emits_channel hch
  exact ⟨hselect.emits_exec rfl, hadc, hsa, hall.emits_exec rfl⟩

/-- The rows of a channel that is not configured. -/
theorem emits_unconfigured {d ch : Nat} (hch : s.cfg.channels ≤ ch) :
    Emits (exec (.adcRead d ch) s) s 0 0 ∧ Emits (exec (.saReadChannel d ch) s) s 0 0 := by
  have hwork : channelWork d ch s = s :=
    if_neg (by rwa [configuredChannel_iff, Nat.not_lt])
  have hsame : SamePorts s (channelWork d ch s) := by
    rw [hwork]
    exact SamePorts.refl s
  exact ⟨emits_none hline rfl hsame, emits_none hline rfl hsame⟩

/-- The rows of the two sweeps. -/
theorem emits_sweeps :
    Emits (exec .saReadAll s) s (sweepShifts s.cfg.devices (4 * s.cfg.avgN))
        (4 * s.cfg.avgN * s.cfg.devices) ∧
      Emits (exec .saReadAllRaw s) s (sweepShifts s.cfg.devices s.cfg.channels)
        (s.cfg.channels * s.cfg.devices) := by
  obtain ⟨-, -, hch, -, -, -, havg, -⟩ := (config_wellFormed_iff _).1 hline.1
  have hplates := (Emitted.refl hline).sweep fun p => readsDevice_readPlate havg
  have hraw := (Emitted.refl hline).sweep (k := s.cfg.channels)
    (body := fun p t => forUpTo t.cfg.channels (readIntoRawbuf p) t) fun p hp =>
      readsDevice_channels (by omega) fun ch =>
        .ofReadCore (ch := ch) (validDevice_succ hp) fun _ => {}
  simp only [Nat.zero_add, Nat.mul_comm s.cfg.devices] at hplates hraw
  exact ⟨hplates.emits_exec rfl, hraw.emits_exec rfl⟩

end

/-- Settles O45: each row by the reads of its command, INIT's by those of its calibration. -/
theorem eventCountsAreExact : Obligations.EventCountsAreExact := by
  unfold Obligations.EventCountsAreExact
  intro s hwf hcor
  have hline : SelectsOneLine s := ⟨hwf, hcor⟩
  refine ⟨?valid, ?invalid, fun d ch => emits_unconfigured hline, (emits_sweeps hline).1,
    (emits_sweeps hline).2, ?quiet, ?errors, ?illegal, ?init, rfl, rfl⟩
  case valid =>
    intro t ch hpos ht hch
    exact emits_valid hline ((validDevice_iff _ _).2 ⟨hpos, ht⟩) hch
  case invalid =>
    intro d ch hd hch
    exact emits_invalid hline (decide_eq_false (by omega)) hch
  case quiet =>
    intro b x y
    exact ⟨emits_none hline rfl (SamePorts.refl s),
      emits_none hline rfl (configWork_samePorts b x s),
      emits_none hline rfl (SamePorts.refl s), emits_none hline rfl (SamePorts.refl s)⟩
  case errors =>
    intro i t hi hexec herror
    rw [(raises_of_error hi hexec herror).2]
    rfl
  case illegal => exact ((Emitted.refl hline).ofSamePorts {}).emits
  case init =>
    obtain ⟨line, hinit⟩ := emitted_initSequence hwf
    have hframes : s.cfg.calN * (s.cfg.devices * s.cfg.channels) =
        s.cfg.channels * s.cfg.calN * s.cfg.devices := by ring
    rw [hframes] at hinit
    exact hinit.emits

end Sys2Proof.Machine
end
